-- ==== Sys2Proof/Word.lean ====
section
/-! DEFINITION. The fixed-width words of the hardware (spec 00_scope R7, 10_state R12 to R20).
Registers whose width is a parameter of the elaboration are natural numbers; see Machine/State.lean. -/

namespace Sys2Proof

/-- The unit of storage and transfer, 8 bits unsigned (20_memory R51). -/
abbrev Byte := BitVec 8

/-- A frame of two bytes, first byte high (30_encoding R73). -/
abbrev KeyCode := BitVec 16

/-- A wheel speed, 8-bit two's complement, percent of full duty, positive forward (30_encoding R79). -/
abbrev Speed := BitVec 8

/-- A duty value, 0 to 65535 standing for 0 to 100 percent (30_encoding R80). -/
abbrev Duty := BitVec 16

/-- A selector word of four bits (30_encoding R82, `SSEL`). -/
abbrev Sel4 := BitVec 4

/-- A selector word of two bits (30_encoding R82, `BSEL`, `TSEL`, `WSEL`). -/
abbrev Sel2 := BitVec 2

/-- A selector word of one bit (30_encoding R82, `PSEL`). -/
abbrev Sel1 := BitVec 1

end Sys2Proof
end

