-- ==== Sys2Proof/Syntax.lean ====
section
/-! DEFINITION. The operations of the hardware: one constructor per row of spec/opcode_table.json. They are not
instructions of a program: a KeyCode arrives on the wire and every other operation is selected by the hardware's
own state (spec 10_state R21, 30_encoding R82, R83). -/

namespace Sys2Proof

/-- The 16 values of ButtonName (30_encoding R74). -/
inductive ButtonName where
  | idle
  | up
  | down
  | left
  | right
  | rightStickUp
  | rightStickDown
  | rightStickLeft
  | rightStickRight
  | l1
  | l2
  | lt
  | r1
  | r2
  | rt
  | unknown
  deriving DecidableEq, Repr

/-- The two wheels of the differential drive (30_encoding R79). -/
inductive Wheel where
  | left
  | right
  deriving DecidableEq, Repr

/-- One constructor per row of the table. The operands are those the rule of the row names. -/
inductive Instr where
  -- format KEYCODE: the effect of each button code (43_dispatcher R153 to R169)
  | up
  | down
  | left
  | right
  | rightStickUp
  | rightStickDown
  | rightStickLeft
  | rightStickRight
  | l1
  | l2
  | lt
  | r1
  | r2
  | rt
  | idle0000
  | idle0001
  /-- Every KeyCode outside the 16 exact rows (R169). -/
  | unknown (code : KeyCode)
  -- format SSEL: the sample step; `rx` is the line value at this sample tick (40_sampler R100)
  | sHunt (rx : Bool)
  | sStart (rx : Bool)
  | sWait (rx : Bool)
  | sShift (rx : Bool)
  | sLast (rx : Bool)
  -- format PSEL: `FifoPush` (41_fifo R121, R122)
  | fPush (b : Byte)
  | fDrop (b : Byte)
  -- format BSEL: phase 1 of the dispatch step (41_fifo R123, 42_frame_decoder R142)
  | fPop
  | bNone
  | faFirst
  | faSecond
  -- format TSEL: phase 2 of the dispatch step (43_dispatcher R170, R171); D.HOLD has two rows
  | dTimeout
  /-- D.HOLD, pattern `0x`: in D_IDLE. -/
  | dHoldIdle
  /-- D.HOLD, pattern `10`: in D_PRESSED and not expired. -/
  | dHoldPressed
  -- format WSEL: one wheel of M.APPLY (44_motor_driver R193 to R195)
  | mFwd (w : Wheel)
  | mRev (w : Wheel)
  | mStop (w : Wheel)
  -- format ALWAYS: no selector word
  | decode (code : KeyCode)
  | press (name : ButtonName)
  | mApply
  | tMs
  | pStep
  | xSync (rxPin : Bool)
  deriving DecidableEq, Repr

end Sys2Proof
end

