-- ==== Sys2Proof/Config.lean ====
section
/-! DEFINITION. What an implementation fixes: the elaboration parameters of spec 00_scope R4 with their
reference values and legal ranges, and the free values that stand for the input ports. -/

namespace Sys2Proof.Config

/-- Sample ticks per nominal bit time, fixed (00_scope R4). -/
def oversample : Nat := 8

/-- Payload bits per byte, fixed (00_scope R4). -/
def payloadBits : Nat := 8

/-- Modulus of the PWM counter, fixed (00_scope R4). -/
def pwmPeriod : Nat := 65535

/-- Nominal bit rate of the wire, informative only: no rule of the model reads it (00_scope R4, R5). -/
def baud : Nat := 9600

/-- Frequency of `clk` in hertz, informative only: no rule of the model reads it (00_scope R4, R5). -/
def fClk : Nat := 76800000

/-- The parameters of 00_scope R4 that are not fixed: "The model takes the parameters of the table below as
arguments". They travel in `State.params`; no operation changes them (R5). -/
structure Params where
  /-- Sample ticks from the tick that detects the start edge to the tick that samples payload bit 0. -/
  startDelay : Nat
  /-- Bytes the FIFO holds. -/
  fifoDepth  : Nat
  /-- Release timeout in milliseconds, compared with strict `>`. -/
  timeout    : Nat
  /-- Magnitude of the direction table, in percent, clamped by R191 where it is used. -/
  speed      : Int
  /-- Duty-scaling constant times 100. -/
  scaleX100  : Nat
  /-- Width in bits of `now` and `last_act`. -/
  timerWidth : Nat
  /-- `clk` cycles per sample tick. -/
  sampleDiv  : Nat
  /-- `clk` cycles per millisecond tick. -/
  msDiv      : Nat
  /-- `clk` cycles per dispatch tick. -/
  dispDiv    : Nat
  /-- `clk` cycles per PWM counter increment. -/
  pwmDiv     : Nat
  /-- `BUTTON_ROM`: `none` is the table of 30_encoding R75; an overriding table is given by its rows, and a code that no
  row lists is `Unknown`. Log 2. -/
  buttonRom  : Option (List (KeyCode × ButtonName))
  /-- `DIR_ROM`: `none` is the table of 30_encoding R78, formed from `SPEED`; an overriding table is given by its rows,
  (left, right), and is undefined for a name that no row lists. Log 2. -/
  dirRom     : Option (List (ButtonName × (Int × Int)))
  deriving DecidableEq, Repr

/-- The column "reference value" of 00_scope R4: "the value this hardware takes". -/
def reference : Params where
  startDelay := 12
  fifoDepth  := 4
  timeout    := 150
  speed      := 60
  scaleX100  := 65535
  timerWidth := 32
  sampleDiv  := 1000
  msDiv      := 76800
  dispDiv    := 38400
  pwmDiv     := 1
  buttonRom  := none
  dirRom     := none

/-- The column "legal range" of 00_scope R4. Every ROM is legal: "any total function", "any partial function". -/
structure Params.Legal (p : Params) : Prop where
  startDelay   : 1 ≤ p.startDelay ∧ p.startDelay ≤ 16
  fifoDepth    : 1 ≤ p.fifoDepth ∧ p.fifoDepth ≤ 256
  timeout      : p.timeout ≤ 2 ^ 31 - 1
  speed        : -128 ≤ p.speed ∧ p.speed ≤ 127
  scaleX100    : p.scaleX100 ≤ 2 ^ 24 - 1
  timerWidth   : 9 ≤ p.timerWidth ∧ p.timerWidth ≤ 64
  timeoutFits  : p.timeout < 2 ^ (p.timerWidth - 1)
  sampleDiv    : 1 ≤ p.sampleDiv
  msDiv        : 1 ≤ p.msDiv
  dispDiv      : 1 ≤ p.dispDiv
  pwmDiv       : 1 ≤ p.pwmDiv

/-- FREE VALUE. The level of the input port `rx_pin` (10_state R25) at edge number `n` when no level is scripted
for it: any sequence of bits, one per clock cycle (40_sampler R110). Log 3. -/
opaque freeRxPin : Nat → Bool

/-- FREE VALUE. The level of the input port `rst` (10_state R25) at edge number `n` when no level is scripted for
it. Log 3. -/
opaque freeRst : Nat → Bool

end Sys2Proof.Config
end

