-- ==== Sys2Proof/WellFormed.lean ====
section
/-! DEFINITION. Which operations are well formed: those whose operands the selection of spec 30_encoding R82, R83
can give them. -/

namespace Sys2Proof

/-- The 16 KeyCodes with an exact row (30_encoding R75). -/
def listedCodes : List KeyCode :=
  [0x0011, 0x0081, 0x0021, 0x0041, 0x1001, 0x8001, 0x4001, 0x2001,
   0x0009, 0x0005, 0x0003, 0x0801, 0x0401, 0x0201, 0x0000, 0x0001]

/-- A valid button event carries one of the 14 table names: neither `Idle` nor `Unknown` (43_dispatcher R151). -/
def ButtonName.isEvent : ButtonName → Bool
  | .idle => false
  | .unknown => false
  | .up | .down | .left | .right | .rightStickUp | .rightStickDown | .rightStickLeft | .rightStickRight
  | .l1 | .l2 | .lt | .r1 | .r2 | .rt => true

/-- The operand checks: `Unknown` is a code outside the 16 exact rows (R76), a start edge is a low sample (R102),
and PRESS is performed for the 14 table names only (R152). -/
def Instr.wellFormed : Instr → Bool
  | .unknown code => !listedCodes.contains code
  | .sStart rx => !rx
  | .press name => name.isEvent
  | .up | .down | .left | .right | .rightStickUp | .rightStickDown | .rightStickLeft | .rightStickRight
  | .l1 | .l2 | .lt | .r1 | .r2 | .rt | .idle0000 | .idle0001 => true
  | .sHunt _ | .sWait _ | .sShift _ | .sLast _ => true
  | .fPush _ | .fDrop _ | .fPop | .bNone | .faFirst | .faSecond => true
  | .dTimeout | .dHoldIdle | .dHoldPressed => true
  | .mFwd _ | .mRev _ | .mStop _ => true
  | .decode _ | .mApply | .tMs | .pStep | .xSync _ => true

end Sys2Proof
end

