-- ==== Sys2Proof/Decode.lean ====
section
/-! DEFINITION. The decoder: the button ROM, the selector words of spec 30_encoding R82 and R83, the byte and wire
formats of R70 to R73; and the encoder, written from the same tables. -/

namespace Sys2Proof

/-! ### The KeyCode format and the button ROM -/

/-- A KeyCode from its two bytes in arrival order, `stored<<8 | current` (20_memory R53, 30_encoding R73). -/
def keyCodeOf (hi lo : Byte) : KeyCode := (hi.setWidth 16 <<< 8) ||| lo.setWidth 16

/-- The field `hi`, bits 15 to 8 (30_encoding R73). -/
def hiByte (code : KeyCode) : Byte := code.extractLsb' 8 8

/-- The field `lo`, bits 7 to 0 (30_encoding R73). -/
def loByte (code : KeyCode) : Byte := code.extractLsb' 0 8

/-- The 4-bit code of a ButtonName (30_encoding R74). -/
def ButtonName.code : ButtonName → BitVec 4
  | .idle => 0
  | .up => 1
  | .down => 2
  | .left => 3
  | .right => 4
  | .rightStickUp => 5
  | .rightStickDown => 6
  | .rightStickLeft => 7
  | .rightStickRight => 8
  | .l1 => 9
  | .l2 => 10
  | .lt => 11
  | .r1 => 12
  | .r2 => 13
  | .rt => 14
  | .unknown => 15

/-- The 16 exact rows of the button ROM (30_encoding R75); log 2. -/
def buttonRows : List (KeyCode × ButtonName) :=
  [(0x0011, .up), (0x0081, .down), (0x0021, .left), (0x0041, .right),
   (0x1001, .rightStickUp), (0x8001, .rightStickDown), (0x4001, .rightStickLeft), (0x2001, .rightStickRight),
   (0x0009, .l1), (0x0005, .l2), (0x0003, .lt), (0x0801, .r1), (0x0401, .r2), (0x0201, .rt),
   (0x0000, .idle), (0x0001, .idle)]

/-- `ButtonRom(code)`: the name of the exact row that matches, `Unknown` where none does (30_encoding R75, R76,
42_frame_decoder R139). -/
def buttonRom (code : KeyCode) : ButtonName :=
  (buttonRows.lookup code).getD .unknown

/-- The KeyCode row that performs the effect of a name (30_encoding R75): the two `Idle` codes have a row each. -/
def keyCodeRow (name : ButtonName) (code : KeyCode) : Instr :=
  match name with
  | .idle => if code = 0x0000 then .idle0000 else .idle0001
  | .up => .up
  | .down => .down
  | .left => .left
  | .right => .right
  | .rightStickUp => .rightStickUp
  | .rightStickDown => .rightStickDown
  | .rightStickLeft => .rightStickLeft
  | .rightStickRight => .rightStickRight
  | .l1 => .l1
  | .l2 => .l2
  | .lt => .lt
  | .r1 => .r1
  | .r2 => .r2
  | .rt => .rt
  | .unknown => .unknown code

/-- The KeyCode row of the table that a code selects (30_encoding R75, R83). -/
def decodeKeyCode (code : KeyCode) : Instr := keyCodeRow (buttonRom code) code

/-! ### The selector words -/

/-- `SSEL` = {s_state, edge, tz, bl}: 00xx S.HUNT, 01xx S.START, 1x0x S.WAIT, 1x10 S.SHIFT, 1x11 S.LAST. -/
def decodeSsel (sel : Sel4) (rx : Bool) : Instr :=
  if sel.getLsbD 3 then
    if sel.getLsbD 1 then
      if sel.getLsbD 0 then .sLast rx else .sShift rx
    else .sWait rx
  else
    if sel.getLsbD 2 then .sStart rx else .sHunt rx

/-- `PSEL` = {full_eff}: 0 F.PUSH, 1 F.DROP. -/
def decodePsel (sel : Sel1) (b : Byte) : Instr :=
  if sel.getLsbD 0 then .fDrop b else .fPush b

/-- `BSEL` = {has_data, await_first}: 0x B.NONE, 11 FA.FIRST, 10 FA.SECOND (42_frame_decoder R142). -/
def decodeBsel (sel : Sel2) : Instr :=
  if sel.getLsbD 1 then
    if sel.getLsbD 0 then .faFirst else .faSecond
  else .bNone

/-- `TSEL` = {d_state, exp}: 11 D.TIMEOUT, 0x and 10 D.HOLD. -/
def decodeTsel (sel : Sel2) : Instr :=
  if sel.getLsbD 1 then
    if sel.getLsbD 0 then .dTimeout else .dHoldPressed
  else .dHoldIdle

/-- `WSEL` = {neg, zero}: 00 M.FWD, 10 M.REV, x1 M.STOP. -/
def decodeWsel (sel : Sel2) (w : Wheel) : Instr :=
  if sel.getLsbD 0 then .mStop w
  else if sel.getLsbD 1 then .mRev w
  else .mFwd w

/-- The rows of format ALWAYS, which no selector word chooses, each with the operand its rule gives it. -/
inductive AlwaysRow where
  | decode (code : KeyCode)
  | press (name : ButtonName)
  | mApply
  | tMs
  | pStep
  | xSync (rxPin : Bool)
  deriving DecidableEq, Repr

/-- An operation word: a word of one of the table's formats, with the operand the selected operation takes beside
it (30_encoding R82; the table's selector rows carry no operand bits). F.POP is selected by the same word `BSEL`
inside FA.FIRST and FA.SECOND, so it has a tag of its own. Log 10. -/
inductive OpWord where
  | keycode (code : KeyCode)
  | ssel (sel : Sel4) (rx : Bool)
  | psel (sel : Sel1) (b : Byte)
  | bsel (sel : Sel2)
  | pop (sel : Sel2)
  | tsel (sel : Sel2)
  | wsel (sel : Sel2) (w : Wheel)
  | always (row : AlwaysRow)
  deriving DecidableEq, Repr

/-- Why the decoder refuses. -/
inductive DecodeRefusal where
  /-- Fewer than two bytes: a frame is exactly two (30_encoding R73, R84). -/
  | shortFrame
  /-- `edge` = 1 beside a high line value: `edge` means `rx` = 0 (30_encoding R82). -/
  | edgeOnHighLine
  /-- F.POP where `has_data` = 0 (41_fifo R124). -/
  | popWithoutData
  /-- PRESS of a name that is no valid button event (43_dispatcher R151). -/
  | notAButtonEvent
  deriving DecidableEq, Repr

/-- The decoder, total on operation words. -/
def decode : OpWord → Except DecodeRefusal Instr
  | .keycode code => .ok (decodeKeyCode code)
  | .ssel sel rx => if sel.getLsbD 2 && rx then .error .edgeOnHighLine else .ok (decodeSsel sel rx)
  | .psel sel b => .ok (decodePsel sel b)
  | .bsel sel => .ok (decodeBsel sel)
  | .pop sel => if sel.getLsbD 1 then .ok .fPop else .error .popWithoutData
  | .tsel sel => .ok (decodeTsel sel)
  | .wsel sel w => .ok (decodeWsel sel w)
  | .always (.decode code) => .ok (.decode code)
  | .always (.press name) => if name.isEvent then .ok (.press name) else .error .notAButtonEvent
  | .always .mApply => .ok .mApply
  | .always .tMs => .ok .tMs
  | .always .pStep => .ok .pStep
  | .always (.xSync rxPin) => .ok (.xSync rxPin)

/-- The decoder on the byte stream: one frame, and the bytes after it (30_encoding R73, R84). -/
def decodeBytes : List Byte → Except DecodeRefusal (Instr × List Byte)
  | hi :: lo :: rest => .ok (decodeKeyCode (keyCodeOf hi lo), rest)
  | [_] => .error .shortFrame
  | [] => .error .shortFrame

/-! ### The encoder -/

/-- The operation word of an operation; a bit that does not matter (`x`) is written 0. -/
def encode : Instr → OpWord
  | .up => .keycode 0x0011
  | .down => .keycode 0x0081
  | .left => .keycode 0x0021
  | .right => .keycode 0x0041
  | .rightStickUp => .keycode 0x1001
  | .rightStickDown => .keycode 0x8001
  | .rightStickLeft => .keycode 0x4001
  | .rightStickRight => .keycode 0x2001
  | .l1 => .keycode 0x0009
  | .l2 => .keycode 0x0005
  | .lt => .keycode 0x0003
  | .r1 => .keycode 0x0801
  | .r2 => .keycode 0x0401
  | .rt => .keycode 0x0201
  | .idle0000 => .keycode 0x0000
  | .idle0001 => .keycode 0x0001
  | .unknown code => .keycode code
  | .sHunt rx => .ssel 0b0000 rx
  | .sStart rx => .ssel 0b0100 rx
  | .sWait rx => .ssel 0b1000 rx
  | .sShift rx => .ssel 0b1010 rx
  | .sLast rx => .ssel 0b1011 rx
  | .fPush b => .psel 0 b
  | .fDrop b => .psel 1 b
  | .fPop => .pop 0b10
  | .bNone => .bsel 0b00
  | .faFirst => .bsel 0b11
  | .faSecond => .bsel 0b10
  | .dTimeout => .tsel 0b11
  | .dHoldIdle => .tsel 0b00
  | .dHoldPressed => .tsel 0b10
  | .mFwd w => .wsel 0b00 w
  | .mRev w => .wsel 0b10 w
  | .mStop w => .wsel 0b01 w
  | .decode code => .always (.decode code)
  | .press name => .always (.press name)
  | .mApply => .always .mApply
  | .tMs => .always .tMs
  | .pStep => .always .pStep
  | .xSync rxPin => .always (.xSync rxPin)

/-- The two bytes of a KeyCode row, in arrival order (30_encoding R75); none for an internal operation. -/
def encodeBytes (i : Instr) : Option (List Byte) :=
  match encode i with
  | .keycode code => some [hiByte code, loByte code]
  | .ssel _ _ | .psel _ _ | .bsel _ | .pop _ | .tsel _ | .wsel _ _ | .always _ => none

/-! ### The wire format -/

/-- The line level in the nine intervals of one byte, in time order: the start interval low, then the payload bits,
least significant first (30_encoding R70, R71, 20_memory R52). -/
def wireIntervals (b : Byte) : List Bool :=
  false :: (List.range Config.payloadBits).map b.getLsbD

/-- One byte on the wire at ideal timing, one level per sample tick: 72 levels (30_encoding R70, R85 `BYTE`). -/
def wireByte (b : Byte) : List Bool :=
  (wireIntervals b).flatMap (List.replicate Config.oversample)

/-! ### The table's numbering of bits -/

/-- The operation the decoder reads from a row's bits: a KeyCode has 16 bits, numbered as the table numbers them
(`hi` 15:8, `lo` 7:0). Of the selector words, all shorter than a byte, only an `SSEL` word of 4 or more is told from
the other formats by its bits; the smaller ones are refused (log 12). Where `edge` is 1 the line value is low, else
it is taken as high. -/
def decodeTableWord (nbits w : Nat) : Option Instr :=
  if nbits = 16 then
    (decodeBytes [hiByte (BitVec.ofNat 16 w), loByte (BitVec.ofNat 16 w)]).toOption.map Prod.fst
  else if nbits = 8 ∧ 4 ≤ w ∧ w < 16 then
    (decode (.ssel (BitVec.ofNat 4 w) (!(BitVec.ofNat 4 w).getLsbD 2))).toOption
  else none

end Sys2Proof
end

