-- ==== Sys2Proof/Machine/State.lean ====
section
/-! DEFINITION. The state of the hardware: the registers of spec 10_state R11 to R20, under the spec's own names, the
parameters they are sized by, and the input ports. Reset values: 10_state R27. -/

namespace Sys2Proof.Machine

/-- The two sampler states (10_state R12, 30_encoding R81): HUNT is 0, RECV is 1. -/
inductive SamplerState where
  | hunt
  | recv
  deriving DecidableEq, Repr

/-- The two dispatcher states (10_state R15, 30_encoding R81): D_IDLE is 0, D_PRESSED is 1. -/
inductive DispatcherState where
  | idle
  | pressed
  deriving DecidableEq, Repr

/-- The FIFO storage `mem` (10_state R13, 20_memory R50): cells (index, byte), indices strictly rising, none
holding what an unlisted index reads as. Its operations stand in Machine/Ops.lean. Log 8. -/
abbrev Memory := List Host.Cell

/-- The levels of the two input ports at one clock edge (10_state R25). -/
structure Pins where
  rst    : Bool
  rx_pin : Bool
  deriving DecidableEq, Repr

/-- The whole state. A register of parametric width is a natural number below the bound its rule gives; log 9. -/
structure State where
  /-- Input synchroniser, first flop (R11). -/
  rx_meta     : Bool
  /-- Input synchroniser, second flop; the sampler reads only this one (R11). -/
  rx_sync     : Bool
  /-- Sampler state (R12). -/
  s_state     : SamplerState
  /-- The line value at the previous sample tick (R12). -/
  prev        : Bool
  /-- Sample ticks still to wait (R12). -/
  tcnt        : BitVec 4
  /-- Index of the payload bit to be sampled next (R12). -/
  bitn        : BitVec 3
  /-- The byte under assembly (R12). -/
  shreg       : Byte
  /-- FIFO storage (R13). -/
  mem         : Memory
  /-- FIFO write index, below FIFO_DEPTH (R13). -/
  wr          : Nat
  /-- FIFO read index, below FIFO_DEPTH (R13). -/
  rd          : Nat
  /-- Bytes held, at most FIFO_DEPTH (R13). -/
  count       : Nat
  /-- Sticky: a byte was dropped (R13). -/
  fifo_ovf    : Bool
  /-- The next byte is the first of a pair (R14). -/
  await_first : Bool
  /-- The first byte of the pair in progress (R14). -/
  stored      : Byte
  /-- Dispatcher state (R15). -/
  d_state     : DispatcherState
  /-- `now` at the last valid button event, below 2^TIMER_WIDTH (R15). -/
  last_act    : Nat
  /-- Current command, left wheel (R15). -/
  cmd_l       : Speed
  /-- Current command, right wheel (R15). -/
  cmd_r       : Speed
  /-- Left-forward duty (R16). -/
  duty_lf     : Duty
  /-- Left-reverse duty (R16). -/
  duty_lr     : Duty
  /-- Right-forward duty (R16). -/
  duty_rf     : Duty
  /-- Right-reverse duty (R16). -/
  duty_rr     : Duty
  /-- Milliseconds since reset modulo 2^TIMER_WIDTH (R17). -/
  now         : Nat
  /-- PWM counter, 0 to 65534 (R18). -/
  pwm_cnt     : BitVec 16
  /-- Prescaler of the sample tick, below SAMPLE_DIV (R19). -/
  pre_s       : Nat
  /-- Prescaler of the millisecond tick, below MS_DIV (R19). -/
  pre_ms      : Nat
  /-- Prescaler of the dispatch tick, below DISP_DIV (R19). -/
  pre_d       : Nat
  /-- Prescaler of the PWM tick, below PWM_DIV (R19). -/
  pre_p       : Nat
  /-- The last KeyCode assembled (R20). -/
  dbg_code    : KeyCode
  /-- Its ButtonName, in the code of R74 (R20). -/
  dbg_name    : BitVec 4
  /-- Strobe: a KeyCode was assembled in the cycle before (R20). -/
  dbg_valid   : Bool
  /-- Strobe: a DriveCommand was forwarded in the cycle before (R20). -/
  cmd_valid   : Bool
  /-- The model's own: the elaboration parameters (00_scope R4, R5); log 1. -/
  params      : Config.Params
  /-- The model's own: the levels of the input ports at the coming edges, oldest first; log 3. -/
  input       : List Pins
  /-- The model's own: the number of the coming edge, which the free port levels depend on; log 3. -/
  cycle       : Nat
  deriving DecidableEq, Repr

/-- Why a step stops with a fault. The hardware raises no exception (60_exceptions R230). -/
inductive Fault where
  /-- Raised by F.PUSH and by F.POP when `wr` or `rd` is not below FIFO_DEPTH: an index that 20_memory R57 says does
  not exist. Safe: no state that meets the invariants has one, and the hardware's counters cannot hold one. -/
  | fifoIndexOutOfRange
  deriving DecidableEq, Repr

/-- Why a step is refused. -/
inductive Refusal where
  /-- Raised by an arm of `exec` whose operation has no meaning yet. Safe. No arm does. -/
  | notModelled (mnemonic : String)
  /-- Raised by an operation that `exec` is asked for in a state whose selector word (30_encoding R82) does not
  select it: the spec gives it no effect there. Safe: a step asks only for the selected operation. Log 6. -/
  | notSelected
  /-- Raised by PRESS of `Idle` or `Unknown`, which are no valid button events (43_dispatcher R151): the spec never
  performs it. Safe. Log 7. -/
  | notAButtonEvent
  deriving DecidableEq, Repr

/-- What a step or an operation answers. -/
abbrev Result := Host.Outcome State Fault Refusal

/-- The state right after reset, at the reference parameters (10_state R27, 70_reset R261). -/
def State.reset : State where
  rx_meta     := false
  rx_sync     := false
  s_state     := .hunt
  prev        := false
  tcnt        := 0
  bitn        := 0
  shreg       := 0x00
  mem         := []
  wr          := 0
  rd          := 0
  count       := 0
  fifo_ovf    := false
  await_first := true
  stored      := 0x00
  d_state     := .idle
  last_act    := 0
  cmd_l       := 0
  cmd_r       := 0
  duty_lf     := 0
  duty_lr     := 0
  duty_rf     := 0
  duty_rr     := 0
  now         := 0
  pwm_cnt     := 0
  pre_s       := 0
  pre_ms      := 0
  pre_d       := 0
  pre_p       := 0
  dbg_code    := 0x0000
  dbg_name    := 0
  dbg_valid   := false
  cmd_valid   := false
  params      := Config.reference
  input       := []
  cycle       := 0

end Sys2Proof.Machine
end

