-- ==== Sys2Proof/Machine/Operands.lean ====
section
/-! DEFINITION. The operands of the operations: the sampled bit, the two ROMs, clamped speeds and duty values
(spec 30_encoding R72, R78, R79; 44_motor_driver R190 to R192). All arithmetic is exact (R202). -/

namespace Sys2Proof.Machine

/-- `{rx, v[7:1]}`: the new bit enters at bit 7, the rest move down (30_encoding R72, 40_sampler R104, R105). -/
def shiftIn (rx : Bool) (v : Byte) : Byte := (if rx then 0x80 else 0x00) ||| (v >>> 1)

/-- `Clamp(v)` (44_motor_driver R191). -/
def clamp (v : Int) : Int := max (-100) (min 100 v)

/-- `DutyOf(s)` at a duty scale, ties rounded up (44_motor_driver R192). -/
def dutyOf (scaleX100 : Nat) (s : Int) : Duty :=
  BitVec.ofNat 16 (min 65535 (((clamp s).natAbs * scaleX100 + 50) / 100))

/-- `Wheel(s)`: (forward duty, reverse duty) of one wheel (44_motor_driver R190). -/
def wheelDuty (scaleX100 : Nat) (s : Int) : Duty × Duty :=
  let c := clamp s
  if c > 0 then (dutyOf scaleX100 c, 0)
  else if c < 0 then (0, dutyOf scaleX100 c)
  else (0, 0)

/-- S, the clamped parameter `SPEED` (30_encoding R78). -/
def driveSpeed (p : Config.Params) : Int := clamp p.speed

/-- `ButtonRom(code)` of the parameters (30_encoding R75, 00_scope R4). Log 2. -/
def romName (p : Config.Params) (code : KeyCode) : ButtonName :=
  match p.buttonRom with
  | none => buttonRom code
  | some rows => (rows.lookup code).getD .unknown

/-- The direction table of 30_encoding R78: the DriveCommand (left, right) a direction button selects; undefined for
the other names. -/
def directionTable (p : Config.Params) : ButtonName → Option (Int × Int)
  | .up => some (driveSpeed p, driveSpeed p)
  | .down => some (-driveSpeed p, -driveSpeed p)
  | .left => some (-driveSpeed p, driveSpeed p)
  | .right => some (driveSpeed p, -driveSpeed p)
  | .rightStickUp | .rightStickDown | .rightStickLeft | .rightStickRight => none
  | .l1 | .l2 | .lt | .r1 | .r2 | .rt => none
  | .idle | .unknown => none

/-- `DirRom(name)` of the parameters (30_encoding R78, 00_scope R4). A speed of an overriding table is clamped where the
command is formed (44_motor_driver R191). Log 2. -/
def dirRom (p : Config.Params) (name : ButtonName) : Option (Int × Int) :=
  match p.dirRom with
  | none => directionTable p name
  | some rows => (rows.lookup name).map fun d => (clamp d.1, clamp d.2)

/-- A speed as its 8-bit two's-complement register holds it (30_encoding R79). -/
def toSpeed (v : Int) : Speed := BitVec.ofInt 8 v

/-- The command register of a wheel (10_state R15). -/
def wheelCmd (w : Wheel) (s : State) : Speed :=
  match w with
  | .left => s.cmd_l
  | .right => s.cmd_r

/-- The operand of M.FWD, M.REV and M.STOP: the clamped speed of one wheel (44_motor_driver R190, R193 to R195). -/
def wheelSpeed (w : Wheel) (s : State) : Int := clamp (wheelCmd w s).toInt

end Sys2Proof.Machine
end

