-- ==== Sys2Proof/Machine/Flags.lean ====
section
/-! DEFINITION. The one-bit status values (spec 10_state R22), the elapsed time, the selector words (30_encoding R82),
the ticks (45_timebase_and_clock R210), the PWM pins (44_motor_driver R199) and the output ports (10_state R25): all
combinational functions of the registers. -/

namespace Sys2Proof.Machine

/-- `has_data` (10_state R22, 41_fifo R125). -/
def hasData (s : State) : Bool := s.count != 0

/-- `full` (10_state R22, 41_fifo R125). -/
def full (s : State) : Bool := s.count == s.params.fifoDepth

/-- `pressed` (10_state R22). -/
def pressed (s : State) : Bool := s.d_state == .pressed

/-- `(a - b) mod 2^width`, the non-negative remainder (00_scope R7, 44_motor_driver R202 (c)). -/
def modSub (width a b : Nat) : Nat := (((a : Int) - (b : Int)) % ((2 ^ width : Nat) : Int)).toNat

/-- `elapsed` (43_dispatcher R172). -/
def elapsed (s : State) : Nat := modSub s.params.timerWidth s.now s.last_act

/-- `exp`: more than TIMEOUT milliseconds, a strict comparison (30_encoding R82, 43_dispatcher R172). -/
def timeUp (s : State) : Bool := decide (s.params.timeout < elapsed s)

/-- `expired` (10_state R22). -/
def expired (s : State) : Bool := pressed s && timeUp s

/-- `edge`: the falling edge, a sample of 1 followed by a sample of 0 (30_encoding R82, 40_sampler R100). -/
def edge (rx : Bool) (s : State) : Bool := s.prev && !rx

/-- The selector word `SSEL` = {s_state, edge, tz, bl}. -/
def sselOf (rx : Bool) (s : State) : Sel4 :=
  BitVec.ofBool (s.s_state == .recv) ++ BitVec.ofBool (edge rx s) ++ BitVec.ofBool (s.tcnt == 0)
    ++ BitVec.ofBool (s.bitn == 7)

/-- The selector word `PSEL` = {full_eff}. A pop of the same edge has been performed before the push, so `count`
already counts it (41_fifo R126, 45_timebase_and_clock R212). -/
def pselOf (s : State) : Sel1 := BitVec.ofBool (full s)

/-- The selector word `BSEL` = {has_data, await_first}. -/
def bselOf (s : State) : Sel2 := BitVec.ofBool (hasData s) ++ BitVec.ofBool s.await_first

/-- The selector word `TSEL` = {d_state, exp}. -/
def tselOf (s : State) : Sel2 := BitVec.ofBool (pressed s) ++ BitVec.ofBool (timeUp s)

/-- The selector word `WSEL` = {neg, zero} of a wheel. -/
def wselOf (w : Wheel) (s : State) : Sel2 :=
  BitVec.ofBool (decide (wheelSpeed w s < 0)) ++ BitVec.ofBool (decide (wheelSpeed w s = 0))

/-- A tick fires in the edge before which its prescaler holds DIV - 1 (45_timebase_and_clock R210). -/
def fires (pre div : Nat) : Bool := pre + 1 == div

/-- The sample tick (R210). -/
def sampleTick (s : State) : Bool := fires s.pre_s s.params.sampleDiv

/-- The millisecond tick (R210). -/
def msTick (s : State) : Bool := fires s.pre_ms s.params.msDiv

/-- The dispatch tick (R210). -/
def dispatchTick (s : State) : Bool := fires s.pre_d s.params.dispDiv

/-- The PWM tick (R210). -/
def pwmTick (s : State) : Bool := fires s.pre_p s.params.pwmDiv

/-- A PWM pin: high while the counter is below the duty value (44_motor_driver R199). -/
def pwmPin (s : State) (duty : Duty) : Bool := decide (s.pwm_cnt.toNat < duty.toNat)

/-- The output ports (10_state R25). -/
structure Outputs where
  duty_lf   : Duty
  duty_lr   : Duty
  duty_rf   : Duty
  duty_rr   : Duty
  pwm_lf    : Bool
  pwm_lr    : Bool
  pwm_rf    : Bool
  pwm_rr    : Bool
  cmd_l     : Speed
  cmd_r     : Speed
  cmd_valid : Bool
  pressed   : Bool
  has_data  : Bool
  fifo_ovf  : Bool
  dbg_code  : KeyCode
  dbg_name  : BitVec 4
  dbg_valid : Bool
  deriving DecidableEq, Repr

/-- What the output ports show in a state (10_state R25). -/
def outputs (s : State) : Outputs where
  duty_lf   := s.duty_lf
  duty_lr   := s.duty_lr
  duty_rf   := s.duty_rf
  duty_rr   := s.duty_rr
  pwm_lf    := pwmPin s s.duty_lf
  pwm_lr    := pwmPin s s.duty_lr
  pwm_rf    := pwmPin s s.duty_rf
  pwm_rr    := pwmPin s s.duty_rr
  cmd_l     := s.cmd_l
  cmd_r     := s.cmd_r
  cmd_valid := s.cmd_valid
  pressed   := pressed s
  has_data  := hasData s
  fifo_ovf  := s.fifo_ovf
  dbg_code  := s.dbg_code
  dbg_name  := s.dbg_name
  dbg_valid := s.dbg_valid

end Sys2Proof.Machine
end

