-- ==== Sys2Proof/Machine/Ops.lean ====
section
/-! DEFINITION. The named operations the meanings are made of: the FIFO storage, `FifoPush` and `FifoPop` (spec
41_fifo), the dispatcher's registers (43_dispatcher), the motor update (44_motor_driver R190), the forced stop that
stands in for taking an exception (60_exceptions R239), and the sequencing of operations inside one clock edge. -/

namespace Sys2Proof.Machine

/-! ### Sequencing -/

/-- The later operation reads what the earlier one wrote (00_scope R8); a stop ends the edge. -/
def andThen (r : Result) (f : State → Result) : Result :=
  match r with
  | .next s => f s
  | .fault e => .fault e
  | .refused e => .refused e

/-- An operation that only the selected state admits (30_encoding R82, R83); log 6. -/
def whenSelected (selected : Bool) (s : State) (effect : State → Result) : Result :=
  if selected then effect s else .refused .notSelected

/-- An agent's step, performed where its tick fires (45_timebase_and_clock R212). -/
def onTick (tick : Bool) (agent : State → Result) (s : State) : Result :=
  if tick then agent s else .next s

/-! ### The FIFO storage -/

/-- What an index that no cell lists reads as: the reset contents (10_state R27). -/
def Memory.unlisted : Byte := 0x00

/-- One byte of the storage (20_memory R50). -/
def Memory.read : Memory → Nat → Byte
  | [], _ => Memory.unlisted
  | (b, w) :: m, a => if a = b then w else Memory.read m a

/-- Write one byte, keeping the canonical form. -/
def Memory.write : Memory → Nat → Byte → Memory
  | [], a, v => if v = Memory.unlisted then [] else [(a, v)]
  | (b, w) :: m, a, v =>
    if a < b then
      if v = Memory.unlisted then (b, w) :: m else (a, v) :: (b, w) :: m
    else if a = b then
      if v = Memory.unlisted then m else (a, v) :: m
    else (b, w) :: Memory.write m a v

/-- The canonical form from an index on: indices strictly rising, no cell equal to what an unlisted one reads as. -/
def Memory.wfFrom : Nat → Memory → Bool
  | _, [] => true
  | lo, (a, v) :: m => decide (lo ≤ a) && v != Memory.unlisted && Memory.wfFrom (a + 1) m

/-- The canonical form. -/
def Memory.wf (m : Memory) : Bool := Memory.wfFrom 0 m

/-! ### FifoPush and FifoPop -/

/-- The index after `i` in the circular buffer (41_fifo R121, R123). -/
def nextIndex (s : State) (i : Nat) : Nat := (i + 1) % s.params.fifoDepth

/-- F.PUSH's effect (41_fifo R121). -/
def pushByte (b : Byte) (s : State) : Result :=
  if s.wr < s.params.fifoDepth then
    .next { s with mem := Memory.write s.mem s.wr b, wr := nextIndex s s.wr, count := s.count + 1 }
  else .fault .fifoIndexOutOfRange

/-- F.DROP's effect: the newest byte is lost and the sticky flag set (41_fifo R122). -/
def dropByte (s : State) : State := { s with fifo_ovf := true }

/-- `FifoPush(b)`: F.PUSH, or F.DROP where the FIFO is full (41_fifo R121, R122, R126). -/
def fifoPush (b : Byte) (s : State) : Result :=
  if full s then .next (dropByte s) else pushByte b s

/-- The registers F.POP writes (41_fifo R123). -/
def popped (s : State) : State := { s with rd := nextIndex s s.rd, count := s.count - 1 }

/-- `FifoPop()`: the oldest byte goes to `use`, together with the state after the pop (41_fifo R123). -/
def fifoPop (s : State) (use : Byte → State → Result) : Result :=
  if s.rd < s.params.fifoDepth then use (Memory.read s.mem s.rd) (popped s)
  else .fault .fifoIndexOutOfRange

/-! ### The motor channels -/

/-- Write the two duty registers of one wheel (10_state R16). -/
def setWheel (w : Wheel) (duty : Duty × Duty) (s : State) : State :=
  match w with
  | .left => { s with duty_lf := duty.1, duty_lr := duty.2 }
  | .right => { s with duty_rf := duty.1, duty_rr := duty.2 }

/-- M.APPLY(l, r): all four duty registers in one edge, and the strobe (44_motor_driver R190, R201). -/
def applyCommand (l r : Speed) (s : State) : State :=
  { s with
    duty_lf := (wheelDuty s.params.scaleX100 l.toInt).1
    duty_lr := (wheelDuty s.params.scaleX100 l.toInt).2
    duty_rf := (wheelDuty s.params.scaleX100 r.toInt).1
    duty_rr := (wheelDuty s.params.scaleX100 r.toInt).2
    cmd_valid := true }

/-- Forward the current command to the motor driver: phase 3 of the dispatch step (43_dispatcher R150). -/
def forward (s : State) : State := applyCommand s.cmd_l s.cmd_r s

/-! ### The dispatcher -/

/-- The registers PRESS(name) writes: activity time, command per the direction ROM, D_PRESSED (43_dispatcher R152). -/
def recordPress (name : ButtonName) (s : State) : State :=
  match dirRom s.params name with
  | some (l, r) => { s with last_act := s.now, cmd_l := toSpeed l, cmd_r := toSpeed r, d_state := .pressed }
  | none => { s with last_act := s.now, d_state := .pressed }

/-- PRESS(name) with the forwarding it asks for: "forward the DriveCommand to MotorDriver" (43_dispatcher R152).
The rest of its dispatch step changes no register the forwarding reads (R174); log 5. -/
def pressAndForward (name : ButtonName) (s : State) : State := forward (recordPress name s)

/-- The registers D.TIMEOUT writes: D_IDLE and the command stop (43_dispatcher R170). -/
def releaseStop (s : State) : State := { s with d_state := .idle, cmd_l := 0, cmd_r := 0 }

/-- The forced change of control state that stands in for taking an exception: it saves nothing, has no vector and no
return (60_exceptions R239, R240), and forwards the stop (43_dispatcher R170). -/
def forcedStop (s : State) : State := forward (releaseStop s)

/-! ### The frame assembler -/

/-- The registers FA.FIRST writes: the byte is kept as the high byte, the flag flipped (42_frame_decoder R136). -/
def keepFirst (b : Byte) (s : State) : State := { s with stored := b, await_first := false }

/-- The registers FA.SECOND writes once a KeyCode is complete: the pair is closed and the diagnostic registers show
the code and its name (42_frame_decoder R137, R141). -/
def completeFrame (code : KeyCode) (s : State) : State :=
  { s with await_first := true, dbg_code := code, dbg_name := (romName s.params code).code, dbg_valid := true }

/-! ### The synchroniser and the counters -/

/-- The input synchroniser shifted by one edge (40_sampler R110). -/
def synced (rxPin : Bool) (s : State) : State := { s with rx_sync := s.rx_meta, rx_meta := rxPin }

/-- A prescaler restarts at 0 after its tick, else it counts one edge (45_timebase_and_clock R210). -/
def nextPrescaler (pre div : Nat) : Nat := if fires pre div then 0 else pre + 1

end Sys2Proof.Machine
end

