-- ==== Sys2Proof/Machine/Dispatcher.lean ====
section
/-! DEFINITION. The dispatcher's common press and its release timeout (spec 43_dispatcher R152, R170 to R172). -/

namespace Sys2Proof.Machine

/-- PRESS(name): the common effect of the 14 valid button events (43_dispatcher R151, R152). -/
def execPress (name : ButtonName) (s : State) : Result :=
  if name.isEvent then .next (pressAndForward name s) else .refused .notAButtonEvent

/-- D.TIMEOUT: go to D_IDLE and forward the stop (43_dispatcher R170). -/
def execDTimeout (s : State) : Result :=
  whenSelected (pressed s && timeUp s) s fun s => .next (forcedStop s)

/-- D.HOLD in D_IDLE: nothing is evaluated, no stop is forwarded again (43_dispatcher R171). -/
def execDHoldIdle (s : State) : Result :=
  whenSelected (!pressed s) s .next

/-- D.HOLD in D_PRESSED before the timeout: no register changes (43_dispatcher R171). -/
def execDHoldPressed (s : State) : Result :=
  whenSelected (pressed s && !timeUp s) s .next

end Sys2Proof.Machine
end

