-- ==== Sys2Proof/Machine/Fifo.lean ====
section
/-! DEFINITION. The FIFO's three operations (spec 41_fifo R121 to R123). -/

namespace Sys2Proof.Machine

/-- F.PUSH: append a byte (41_fifo R121). -/
def execFPush (b : Byte) (s : State) : Result :=
  whenSelected (!full s) s (pushByte b)

/-- F.DROP: the FIFO is full, the new byte is lost (41_fifo R122). -/
def execFDrop (_b : Byte) (s : State) : Result :=
  whenSelected (full s) s fun s => .next (dropByte s)

/-- F.POP: remove the oldest byte; the byte itself goes to the operation it is part of (41_fifo R123). -/
def execFPop (s : State) : Result :=
  whenSelected (hasData s) s fun s => fifoPop s fun _ s => .next s

end Sys2Proof.Machine
end

