-- ==== Sys2Proof/Machine/KeyCodes.lean ====
section
/-! DEFINITION. The 17 KeyCode rows (spec 43_dispatcher R153 to R169): what each button code does once it is assembled
and decoded. The diagnostic registers are FA.SECOND's (42_frame_decoder R141), not these rows'. -/

namespace Sys2Proof.Machine

/-- Up: both wheels forward (43_dispatcher R153). -/
def execUp (s : State) : Result := .next (pressAndForward .up s)

/-- Down: both wheels backward (43_dispatcher R154). -/
def execDown (s : State) : Result := .next (pressAndForward .down s)

/-- Left: pivot left (43_dispatcher R155). -/
def execLeft (s : State) : Result := .next (pressAndForward .left s)

/-- Right: pivot right (43_dispatcher R156). -/
def execRight (s : State) : Result := .next (pressAndForward .right s)

/-- RightStickUp: a button with no direction, the command stays (43_dispatcher R157). -/
def execRightStickUp (s : State) : Result := .next (pressAndForward .rightStickUp s)

/-- RightStickDown: a button with no direction, the command stays (43_dispatcher R158). -/
def execRightStickDown (s : State) : Result := .next (pressAndForward .rightStickDown s)

/-- RightStickLeft: a button with no direction, the command stays (43_dispatcher R159). -/
def execRightStickLeft (s : State) : Result := .next (pressAndForward .rightStickLeft s)

/-- RightStickRight: a button with no direction, the command stays (43_dispatcher R160). -/
def execRightStickRight (s : State) : Result := .next (pressAndForward .rightStickRight s)

/-- L1: a button with no direction, the command stays (43_dispatcher R161). -/
def execL1 (s : State) : Result := .next (pressAndForward .l1 s)

/-- L2: a button with no direction, the command stays (43_dispatcher R162). -/
def execL2 (s : State) : Result := .next (pressAndForward .l2 s)

/-- LT: a button with no direction, the command stays (43_dispatcher R163). -/
def execLt (s : State) : Result := .next (pressAndForward .lt s)

/-- R1: a button with no direction, the command stays (43_dispatcher R164). -/
def execR1 (s : State) : Result := .next (pressAndForward .r1 s)

/-- R2: a button with no direction, the command stays (43_dispatcher R165). -/
def execR2 (s : State) : Result := .next (pressAndForward .r2 s)

/-- RT: a button with no direction, the command stays (43_dispatcher R166). -/
def execRt (s : State) : Result := .next (pressAndForward .rt s)

/-- Idle, code 0x0000: filtered before dispatch, refreshes nothing (43_dispatcher R167). -/
def execIdle0000 (s : State) : Result := .next s

/-- Idle, code 0x0001: filtered before dispatch, refreshes nothing (43_dispatcher R168). -/
def execIdle0001 (s : State) : Result := .next s

/-- Unknown: ignored, non-fatal, whatever the code (43_dispatcher R169). -/
def execUnknown (_code : KeyCode) (s : State) : Result := .next s

/-- "perform the KeyCode rule of name" (42_frame_decoder R137): the row that the assembled code selects. -/
def performKeyCode (code : KeyCode) (s : State) : Result :=
  match romName s.params code with
  | .idle => if code = 0x0000 then execIdle0000 s else execIdle0001 s
  | .up => execUp s
  | .down => execDown s
  | .left => execLeft s
  | .right => execRight s
  | .rightStickUp => execRightStickUp s
  | .rightStickDown => execRightStickDown s
  | .rightStickLeft => execRightStickLeft s
  | .rightStickRight => execRightStickRight s
  | .l1 => execL1 s
  | .l2 => execL2 s
  | .lt => execLt s
  | .r1 => execR1 s
  | .r2 => execR2 s
  | .rt => execRt s
  | .unknown => execUnknown code s

end Sys2Proof.Machine
end

