-- ==== Sys2Proof/Machine/Frame.lean ====
section
/-! DEFINITION. The frame assembler and the button decoder (spec 42_frame_decoder R135 to R141). -/

namespace Sys2Proof.Machine

/-- B.NONE: no byte this dispatch step (42_frame_decoder R135). -/
def execBNone (s : State) : Result :=
  whenSelected (!hasData s) s .next

/-- FA.FIRST: keep the byte as the high byte (42_frame_decoder R136). -/
def execFaFirst (s : State) : Result :=
  whenSelected (hasData s && s.await_first) s fun s =>
    fifoPop s fun b s => .next (keepFirst b s)

/-- FA.SECOND: complete the KeyCode, decode it, perform its row (42_frame_decoder R137). -/
def execFaSecond (s : State) : Result :=
  whenSelected (hasData s && !s.await_first) s fun s =>
    fifoPop s fun b s =>
      performKeyCode (keyCodeOf s.stored b) (completeFrame (keyCodeOf s.stored b) s)

/-- DECODE: combinational, "no state read or written"; its result, `romName` of the code, is used by FA.SECOND
(42_frame_decoder R139). Log 11. -/
def execDecode (_code : KeyCode) (s : State) : Result := .next s

end Sys2Proof.Machine
end

