-- ==== Sys2Proof/Machine/Motor.lean ====
section
/-! DEFINITION. The motor driver's operations, the PWM counter and the millisecond counter (spec 44_motor_driver R190,
R193 to R195, R198; 45_timebase_and_clock R211). -/

namespace Sys2Proof.Machine

/-- M.APPLY: recompute all four duty registers from the command registers (44_motor_driver R190). -/
def execMApply (s : State) : Result := .next (applyCommand s.cmd_l s.cmd_r s)

/-- M.FWD: forward duty, reverse 0 (44_motor_driver R193). -/
def execMFwd (w : Wheel) (s : State) : Result :=
  whenSelected (decide (wheelSpeed w s > 0)) s fun s =>
    .next (setWheel w (dutyOf s.params.scaleX100 (wheelSpeed w s), 0) s)

/-- M.REV: reverse duty, forward 0 (44_motor_driver R194). -/
def execMRev (w : Wheel) (s : State) : Result :=
  whenSelected (decide (wheelSpeed w s < 0)) s fun s =>
    .next (setWheel w (0, dutyOf s.params.scaleX100 (wheelSpeed w s)) s)

/-- M.STOP: both duties 0 (44_motor_driver R195). -/
def execMStop (w : Wheel) (s : State) : Result :=
  whenSelected (decide (wheelSpeed w s = 0)) s fun s => .next (setWheel w (0, 0) s)

/-- P.STEP: the PWM counter advances modulo 65535 (44_motor_driver R198). -/
def execPStep (s : State) : Result :=
  .next { s with pwm_cnt := BitVec.ofNat 16 ((s.pwm_cnt.toNat + 1) % Config.pwmPeriod) }

/-- T.MS: the millisecond counter advances modulo 2^TIMER_WIDTH (45_timebase_and_clock R211). -/
def execTMs (s : State) : Result := .next { s with now := (s.now + 1) % 2 ^ s.params.timerWidth }

end Sys2Proof.Machine
end

