-- ==== Sys2Proof/Machine/Sampler.lean ====
section
/-! DEFINITION. The sampler's five operations and the input synchroniser (spec 40_sampler R100 to R106, R110). Each
sample operation ends with the edge detector's update `prev <- rx` (R106); log 16. -/

namespace Sys2Proof.Machine

/-- S.HUNT: no edge, stay in HUNT (40_sampler R101). -/
def execSHunt (rx : Bool) (s : State) : Result :=
  whenSelected (s.s_state == .hunt && !edge rx s) s fun s => .next { s with prev := rx }

/-- S.START: a falling edge, enter RECV and load the start delay (40_sampler R102). -/
def execSStart (rx : Bool) (s : State) : Result :=
  whenSelected (s.s_state == .hunt && edge rx s) s fun s =>
    .next { s with s_state := .recv, tcnt := BitVec.ofNat 4 (s.params.startDelay - 1), bitn := 0, prev := rx }

/-- S.WAIT: count down one tick (40_sampler R103). -/
def execSWait (rx : Bool) (s : State) : Result :=
  whenSelected (s.s_state == .recv && s.tcnt != 0) s fun s => .next { s with tcnt := s.tcnt - 1, prev := rx }

/-- S.SHIFT: sample a payload bit other than the last (40_sampler R104). -/
def execSShift (rx : Bool) (s : State) : Result :=
  whenSelected (s.s_state == .recv && s.tcnt == 0 && s.bitn != 7) s fun s =>
    .next { s with
      shreg := shiftIn rx s.shreg
      bitn := s.bitn + 1
      tcnt := BitVec.ofNat 4 (Config.oversample - 1)
      prev := rx }

/-- S.LAST: sample the last payload bit, push the byte, return to HUNT (40_sampler R105). -/
def execSLast (rx : Bool) (s : State) : Result :=
  whenSelected (s.s_state == .recv && s.tcnt == 0 && s.bitn == 7) s fun s =>
    fifoPush (shiftIn rx s.shreg) { s with shreg := shiftIn rx s.shreg, s_state := .hunt, prev := rx }

/-- X.SYNC: the input synchroniser shifts (40_sampler R110). -/
def execXSync (rxPin : Bool) (s : State) : Result := .next (synced rxPin s)

end Sys2Proof.Machine
end

