-- ==== Sys2Proof/Machine/Dispatch.lean ====
section
/-! DEFINITION. One arm per row of the operation table. -/

namespace Sys2Proof.Machine

def exec (i : Instr) (s : State) : Host.Outcome State Fault Refusal :=
  match i with
  | .up => Sys2Proof.Machine.execUp s
  | .down => Sys2Proof.Machine.execDown s
  | .left => Sys2Proof.Machine.execLeft s
  | .right => Sys2Proof.Machine.execRight s
  | .rightStickUp => Sys2Proof.Machine.execRightStickUp s
  | .rightStickDown => Sys2Proof.Machine.execRightStickDown s
  | .rightStickLeft => Sys2Proof.Machine.execRightStickLeft s
  | .rightStickRight => Sys2Proof.Machine.execRightStickRight s
  | .l1 => Sys2Proof.Machine.execL1 s
  | .l2 => Sys2Proof.Machine.execL2 s
  | .lt => Sys2Proof.Machine.execLt s
  | .r1 => Sys2Proof.Machine.execR1 s
  | .r2 => Sys2Proof.Machine.execR2 s
  | .rt => Sys2Proof.Machine.execRt s
  | .idle0000 => Sys2Proof.Machine.execIdle0000 s
  | .idle0001 => Sys2Proof.Machine.execIdle0001 s
  | .unknown code => Sys2Proof.Machine.execUnknown code s
  | .sHunt rx => Sys2Proof.Machine.execSHunt rx s
  | .sStart rx => Sys2Proof.Machine.execSStart rx s
  | .sWait rx => Sys2Proof.Machine.execSWait rx s
  | .sShift rx => Sys2Proof.Machine.execSShift rx s
  | .sLast rx => Sys2Proof.Machine.execSLast rx s
  | .fPush b => Sys2Proof.Machine.execFPush b s
  | .fDrop b => Sys2Proof.Machine.execFDrop b s
  | .fPop => Sys2Proof.Machine.execFPop s
  | .bNone => Sys2Proof.Machine.execBNone s
  | .faFirst => Sys2Proof.Machine.execFaFirst s
  | .faSecond => Sys2Proof.Machine.execFaSecond s
  | .dTimeout => Sys2Proof.Machine.execDTimeout s
  | .dHoldIdle => Sys2Proof.Machine.execDHoldIdle s
  | .dHoldPressed => Sys2Proof.Machine.execDHoldPressed s
  | .mFwd w => Sys2Proof.Machine.execMFwd w s
  | .mRev w => Sys2Proof.Machine.execMRev w s
  | .mStop w => Sys2Proof.Machine.execMStop w s
  | .decode code => Sys2Proof.Machine.execDecode code s
  | .press name => Sys2Proof.Machine.execPress name s
  | .mApply => Sys2Proof.Machine.execMApply s
  | .tMs => Sys2Proof.Machine.execTMs s
  | .pStep => Sys2Proof.Machine.execPStep s
  | .xSync rxPin => Sys2Proof.Machine.execXSync rxPin s

end Sys2Proof.Machine
end

