-- ==== Sys2Proof/Machine/Cycle.lean ====
section
/-! DEFINITION. How the operations compose: the selection of one operation by its selector word (spec 30_encoding R82),
the agents' steps (00_scope R6, 40_sampler R100, 43_dispatcher R150), one clock edge (45_timebase_and_clock R212, 70_reset
R260), and the placing of an operation where the next edge performs it. -/

namespace Sys2Proof.Machine

/-! ### The agents' steps -/

/-- The sample operation that a line value selects (40_sampler R100). -/
def sampleOp (rx : Bool) (s : State) : Instr := decodeSsel (sselOf rx s) rx

/-- The operation of phase 1 (42_frame_decoder R142). -/
def byteOp (s : State) : Instr := decodeBsel (bselOf s)

/-- The operation of phase 2 (43_dispatcher R170, R171). -/
def timeoutOp (s : State) : Instr := decodeTsel (tselOf s)

/-- `SampleStep(rx)` (40_sampler R100). -/
def sampleStep (rx : Bool) (s : State) : Result := exec (sampleOp rx s) s

/-- `DispatchStep()` (43_dispatcher R150): phase 1, then phase 2 on what phase 1 wrote. Phase 3, the motor update, is
performed by the operation that asks for it; log 5, and `dispatchByPhases` in Safety.lean. -/
def dispatchStep (s : State) : Result :=
  andThen (exec (byteOp s) s) fun s => exec (timeoutOp s) s

/-- `MsStep()` (45_timebase_and_clock R211). -/
def msStep (s : State) : Result := exec .tMs s

/-- `PwmStep()` (44_motor_driver R198). -/
def pwmStep (s : State) : Result := exec .pStep s

/-! ### One clock edge -/

/-- A strobe register is 0 after every edge that does not pulse it (10_state R20, 45_timebase_and_clock R212 step 7);
log 17. -/
def clearStrobes (s : State) : State := { s with dbg_valid := false, cmd_valid := false }

/-- Step 6 of `ClkStep`: every prescaler (45_timebase_and_clock R210, R212). -/
def advancePrescalers (s : State) : State :=
  { s with
    pre_s := nextPrescaler s.pre_s s.params.sampleDiv
    pre_ms := nextPrescaler s.pre_ms s.params.msDiv
    pre_d := nextPrescaler s.pre_d s.params.dispDiv
    pre_p := nextPrescaler s.pre_p s.params.pwmDiv }

/-- `ClkStep(rx_pin)`: one rising edge with `rst` = 0 (45_timebase_and_clock R212). The ticks and the line value are
those before the edge. -/
def clkStep (rxPin : Bool) (s : State) : Result :=
  andThen (onTick (dispatchTick s) dispatchStep (clearStrobes s)) fun a =>
  andThen (onTick (sampleTick s) (sampleStep s.rx_sync) a) fun b =>
  andThen (onTick (msTick s) msStep b) fun c =>
  andThen (onTick (pwmTick s) pwmStep c) fun d =>
  andThen (exec (.xSync rxPin) d) fun e =>
  .next (advancePrescalers e)

/-- The reset edge: every register takes its reset value, whatever ticks would have fired (70_reset R260). The
parameters are no registers (00_scope R5), and the input ports go on. -/
def resetEdge (s : State) : State :=
  { State.reset with params := s.params, input := s.input, cycle := s.cycle }

/-- The levels of the input ports at the coming edge: the next scripted ones, else free ones (log 3). -/
def pinsNow (s : State) : Pins :=
  match s.input with
  | p :: _ => p
  | [] => { rst := Config.freeRst s.cycle, rx_pin := Config.freeRxPin s.cycle }

/-- The edge has passed: its scripted levels are used up (log 3). -/
def consumeInput (s : State) : State := { s with input := s.input.tail, cycle := s.cycle + 1 }

/-- One rising edge of `clk`, with the levels the input ports have (70_reset R260: `rst` beats everything). -/
def clockEdge (s : State) : Result :=
  if (pinsNow s).rst then .next (consumeInput (resetEdge s))
  else andThen (clkStep (pinsNow s).rx_pin s) fun t => .next (consumeInput t)

/-! ### Interleavings of the agents (45_timebase_and_clock R213) -/

/-- One atomic step of one agent at the event level (00_scope R6, 45_timebase_and_clock R213). -/
inductive AgentStep where
  | sample (rx : Bool)
  | disp
  | ms
  | pwm
  deriving DecidableEq, Repr

/-- The agent's step. -/
def runAgent : AgentStep → State → Result
  | .sample rx, s => sampleStep rx s
  | .disp, s => dispatchStep s
  | .ms, s => msStep s
  | .pwm, s => pwmStep s

/-- A total order of atomic steps (45_timebase_and_clock R213). -/
def runAgents : List AgentStep → State → Result
  | [], s => .next s
  | e :: es, s => andThen (runAgent e s) (runAgents es)

/-- Consecutive sample ticks, one line value each. -/
def sampleSteps (line : List Bool) (s : State) : Result := runAgents (line.map .sample) s

/-! ### Placing an operation where the next edge performs it -/

/-- The coming edge is no reset edge; a level nothing has scripted yet is the idle line's (30_encoding R71). -/
def withoutReset (s : State) : State :=
  match s.input with
  | p :: rest => { s with input := { p with rst := false } :: rest }
  | [] => { s with input := [{ rst := false, rx_pin := true }] }

/-- A KeyCode received but for its dispatch: its first byte is `stored`, its second the oldest byte of the FIFO, and the
dispatch tick fires at the coming edge (42_frame_decoder R137, 45_timebase_and_clock R210). -/
def placeKeyCode (code : KeyCode) (s : State) : State :=
  let s := withoutReset s
  { s with
    stored := hiByte code
    await_first := false
    mem := Memory.write s.mem s.rd (loByte code)
    wr := if hasData s then s.wr else nextIndex s s.rd
    count := if hasData s then s.count else 1
    pre_d := s.params.dispDiv - 1 }

/-- A sampler whose selector word is `sel` at the coming edge, at which the sample tick fires (30_encoding R82). The
line value is low where `edge` is 1, else high. -/
def placeSsel (sel : Sel4) (s : State) : State :=
  let s := withoutReset s
  { s with
    s_state := if sel.getLsbD 3 then .recv else .hunt
    prev := true
    rx_sync := !sel.getLsbD 2
    tcnt := if sel.getLsbD 1 then 0 else 1
    bitn := if sel.getLsbD 0 then 7 else 0
    pre_s := s.params.sampleDiv - 1 }

/-- Place what `decodeTableWord` reads from the same bits; where it reads nothing, nothing is placed (log 12). -/
def placeWord (nbits w : Nat) (s : State) : State :=
  if nbits = 16 then placeKeyCode (BitVec.ofNat 16 w) s
  else if nbits = 8 ∧ 4 ≤ w ∧ w < 16 then placeSsel (BitVec.ofNat 4 w) s
  else s

end Sys2Proof.Machine
end

