-- ==== Sys2Proof/Machine/Step.lean ====
section
/-! DEFINITION. One step of the machine: one rising edge of `clk` (spec 45_timebase_and_clock R212, 70_reset R260). -/

namespace Sys2Proof.Machine

/-- One rising edge of `clk`; log 4. -/
def step (s : State) : Host.Outcome State Fault Refusal := clockEdge s

/-- The state with an operation placed where the very next step performs it; log 12. -/
def State.withFetchWord (s : State) (nbits w : Nat) : State := placeWord nbits w s

end Sys2Proof.Machine
end

