-- ==== Sys2Proof/Machine/Stimulus.lean ====
section
/-! DEFINITION. The stimulus notation of spec 30_encoding R85: lines, their expansion to primitives, and what running
them does. -/

namespace Sys2Proof.Machine

/-- One line of the notation (30_encoding R85), `EXPECT` aside, which is an assertion and no action. -/
inductive Stimulus where
  | line (v : Bool) (n : Nat)
  | gap (n : Nat)
  | byte (b : Byte)
  | key (name : ButtonName)
  | push (b : Byte)
  | frame (code : KeyCode)
  | ms (n : Nat)
  | disp (n : Nat)
  | clk (v : Bool) (n : Nat)
  deriving DecidableEq, Repr

/-- The row of a name in the button ROM; `Idle` has two, of which this is the first (30_encoding R75). -/
def codeOfName (name : ButtonName) : Option KeyCode :=
  (buttonRows.find? fun row => row.2 == name).map Prod.fst

/-- Repeat a step. -/
def repeatStep : Nat → (State → Result) → State → Result
  | 0, _, s => .next s
  | n + 1, f, s => andThen (f s) (repeatStep n f)

/-- The sample ticks of `BYTE` (30_encoding R85): ideal timing. -/
def runByte (b : Byte) (s : State) : Result := sampleSteps (wireByte b) s

/-- The sample ticks of `GAP` (30_encoding R85): an idle line. -/
def runGap (n : Nat) (s : State) : Result := repeatStep n (sampleStep true) s

/-- What a line of the notation does (30_encoding R85). A `KEY` of a name with no row does nothing. -/
def runStimulus : Stimulus → State → Result
  | .line v n, s => repeatStep n (sampleStep v) s
  | .gap n, s => runGap n s
  | .byte b, s => runByte b s
  | .key name, s =>
    match codeOfName name with
    | some code =>
      andThen (runByte (hiByte code) s) fun s =>
      andThen (runGap 8 s) fun s =>
      andThen (runByte (loByte code) s) fun s => runGap 8 s
    | none => .next s
  | .push b, s => fifoPush b s
  | .frame code, s => andThen (fifoPush (hiByte code) s) (fifoPush (loByte code))
  | .ms n, s => repeatStep n msStep s
  | .disp n, s => repeatStep n dispatchStep s
  | .clk v n, s => repeatStep n (clkStep v) s

/-- A stimulus program: its lines in order (30_encoding R85). -/
def runStimuli : List Stimulus → State → Result
  | [], s => .next s
  | x :: xs, s => andThen (runStimulus x s) (runStimuli xs)

end Sys2Proof.Machine
end

