-- ==== Sys2Proof/Safety.lean ====
section
/-! DEFINITION. What counts as a good state and a safe run: the invariants of spec 10_state R26, the dispatch step as the
pseudocode of 43_dispatcher R150 writes it, the FIFO as a list (41_fifo R120), and what the diagnostics are kept out of. -/

namespace Sys2Proof.Machine

/-! ### Invariants -/

/-- What holds in every state reachable from reset (10_state R26, and the ranges of R12 to R19). -/
structure Invariants (s : State) : Prop where
  /-- The parameters are legal (00_scope R4). -/
  legal       : s.params.Legal
  /-- R26 (a). -/
  countBound  : s.count ≤ s.params.fifoDepth
  /-- R13. -/
  rdBound     : s.rd < s.params.fifoDepth
  /-- R26 (a). -/
  wrFollows   : s.wr = (s.rd + s.count) % s.params.fifoDepth
  /-- The storage keeps its canonical form. -/
  memWf       : Memory.wf s.mem = true
  /-- The storage has FIFO_DEPTH entries (R13, R57). -/
  memDomain   : ∀ a, s.params.fifoDepth ≤ a → Memory.read s.mem a = Memory.unlisted
  /-- R26 (b). -/
  cmdLRange   : -100 ≤ s.cmd_l.toInt ∧ s.cmd_l.toInt ≤ 100
  /-- R26 (b). -/
  cmdRRange   : -100 ≤ s.cmd_r.toInt ∧ s.cmd_r.toInt ≤ 100
  /-- R26 (c). -/
  idleStopped : s.d_state = .idle → s.cmd_l = 0 ∧ s.cmd_r = 0
  /-- R26 (d), left wheel. -/
  dutyLeft    : (s.duty_lf, s.duty_lr) = wheelDuty s.params.scaleX100 s.cmd_l.toInt
  /-- R26 (d), right wheel. -/
  dutyRight   : (s.duty_rf, s.duty_rr) = wheelDuty s.params.scaleX100 s.cmd_r.toInt
  /-- R26 (g), R12; `bitn` is at most 7 by its width. -/
  tcntRange   : s.s_state = .recv → s.tcnt.toNat ≤ max s.params.startDelay Config.oversample - 1
  /-- R26 (h). -/
  pwmRange    : s.pwm_cnt.toNat ≤ 65534
  /-- R17. -/
  nowRange    : s.now < 2 ^ s.params.timerWidth
  /-- R15. -/
  lastRange   : s.last_act < 2 ^ s.params.timerWidth
  /-- R19. -/
  preSRange   : s.pre_s < s.params.sampleDiv
  /-- R19. -/
  preMsRange  : s.pre_ms < s.params.msDiv
  /-- R19. -/
  preDRange   : s.pre_d < s.params.dispDiv
  /-- R19. -/
  prePRange   : s.pre_p < s.params.pwmDiv

/-- All four channels off (43_dispatcher R177). -/
def AllOff (s : State) : Prop := s.duty_lf = 0 ∧ s.duty_lr = 0 ∧ s.duty_rf = 0 ∧ s.duty_rr = 0

/-! ### The dispatch step as R150 writes it -/

/-- Phase 1 with its local variable `fwd`: byte, frame, decode, button. -/
def phaseByte (s : State) (next : Bool → State → Result) : Result :=
  if s.count = 0 then next false s
  else if s.rd < s.params.fifoDepth then
    let b := Memory.read s.mem s.rd
    let s := { s with rd := (s.rd + 1) % s.params.fifoDepth, count := s.count - 1 }
    if s.await_first then next false { s with stored := b, await_first := false }
    else
      let code := keyCodeOf s.stored b
      let name := romName s.params code
      let s := { s with await_first := true, dbg_code := code, dbg_name := name.code, dbg_valid := true }
      if name.isEvent then next true (recordPress name s) else next false s
  else .fault .fifoIndexOutOfRange

/-- Phase 2: the release timeout. -/
def phaseTimeout (fwd : Bool) (s : State) (next : Bool → State → Result) : Result :=
  if s.d_state = .pressed ∧ modSub s.params.timerWidth s.now s.last_act > s.params.timeout then
    next true { s with d_state := .idle, cmd_l := 0, cmd_r := 0 }
  else next fwd s

/-- Phase 3: the motor update. -/
def phaseMotor (fwd : Bool) (s : State) : Result :=
  if fwd then .next (applyCommand s.cmd_l s.cmd_r s) else .next s

/-- `DispatchStep()` phase by phase, M.APPLY performed in phase 3 only (43_dispatcher R150). -/
def dispatchByPhases (s : State) : Result :=
  phaseByte s fun fwd s => phaseTimeout fwd s fun fwd s => phaseMotor fwd s

/-! ### What a press leaves -/

/-- The state after a press with the command (l, r), every register it writes named with its value: D_PRESSED, the
activity time, the command, the four duties of the two wheels, the strobe (43_dispatcher R152, 44_motor_driver R190). -/
def afterPress (l r : Int) (s : State) : State :=
  { s with
    last_act := s.now
    d_state := .pressed
    cmd_l := toSpeed l
    cmd_r := toSpeed r
    duty_lf := (wheelDuty s.params.scaleX100 l).1
    duty_lr := (wheelDuty s.params.scaleX100 l).2
    duty_rf := (wheelDuty s.params.scaleX100 r).1
    duty_rr := (wheelDuty s.params.scaleX100 r).2
    cmd_valid := true }

/-- The state after a stop: D_IDLE, command (0, 0), all four duties 0, the strobe (43_dispatcher R170). -/
def afterStop (s : State) : State :=
  { s with
    d_state := .idle, cmd_l := 0, cmd_r := 0
    duty_lf := 0, duty_lr := 0, duty_rf := 0, duty_rr := 0
    cmd_valid := true }

/-! ### Events -/

/-- The KeyCode that this dispatch step assembles, if it performs FA.SECOND (42_frame_decoder R137, R142). -/
def codeNow (s : State) : Option KeyCode :=
  if hasData s && !s.await_first then some (keyCodeOf s.stored (Memory.read s.mem s.rd)) else none

/-- The valid button event of this dispatch step, if there is one (43_dispatcher R151). -/
def eventNow (s : State) : Option ButtonName :=
  match codeNow s with
  | some code => if (romName s.params code).isEvent then some (romName s.params code) else none
  | none => none

/-- No dispatch step of an interleaving has a valid button event. -/
def noEventAlong : List AgentStep → State → Prop
  | [], _ => True
  | e :: es, s =>
    (e = .disp → eventNow s = none) ∧
    match runAgent e s with
    | .next t => noEventAlong es t
    | .fault _ => True
    | .refused _ => True

/-! ### The PWM pins over time -/

/-- The pin of a constant duty after `k` PWM ticks (44_motor_driver R198, R199). -/
def pinAfter (k : Nat) (duty : Duty) (s : State) : Bool :=
  match runAgents (List.replicate k .pwm) s with
  | .next t => pwmPin t duty
  | .fault _ => false
  | .refused _ => false

/-! ### The FIFO as a list -/

/-- The bytes held, oldest first (41_fifo R120). -/
def fifoContents (s : State) : List Byte :=
  (List.range s.count).map fun k => Memory.read s.mem ((s.rd + k) % s.params.fifoDepth)

/-! ### The diagnostics -/

/-- The state without what no functional rule reads (10_state R20, R22). -/
def withoutDiagnostics (s : State) : State :=
  { s with dbg_code := 0, dbg_name := 0, dbg_valid := false, cmd_valid := false, fifo_ovf := false }

/-- What a result leaves of the functional registers. -/
def functionalPart : Result → Result
  | .next s => .next (withoutDiagnostics s)
  | .fault e => .fault e
  | .refused e => .refused e

/-! ### The two timelines -/

/-- `u` with all that the sample step works on taken from `t`: the sampler's registers, the producer's side of the FIFO, the
parameters (10_state R12, R13). -/
def withSamplerOf (t u : State) : State :=
  { u with
    s_state := t.s_state, prev := t.prev, tcnt := t.tcnt, bitn := t.bitn, shreg := t.shreg
    mem := t.mem, wr := t.wr, count := t.count, fifo_ovf := t.fifo_ovf
    params := t.params }

/-- `u` with all that the dispatch step works on taken from `t`: the consumer's side of the FIFO, the assembler's, the
dispatcher's, the duty and the diagnostic registers, the strobes, the time `now` and the parameters (10_state R13 to R17,
R20). -/
def withDispatchOf (t u : State) : State :=
  { u with
    mem := t.mem, rd := t.rd, count := t.count
    await_first := t.await_first, stored := t.stored
    d_state := t.d_state, last_act := t.last_act, cmd_l := t.cmd_l, cmd_r := t.cmd_r
    duty_lf := t.duty_lf, duty_lr := t.duty_lr, duty_rf := t.duty_rf, duty_rr := t.duty_rr
    dbg_code := t.dbg_code, dbg_name := t.dbg_name, dbg_valid := t.dbg_valid, cmd_valid := t.cmd_valid
    now := t.now
    params := t.params }

/-! ### The dispatch rate -/

/-- Clock edges before the earliest edge that can push a byte (40_sampler R109, 70_reset R268). -/
def edgesToPush (s : State) : Nat :=
  (s.params.sampleDiv - 1 - s.pre_s) +
    match s.s_state with
    | .hunt => (s.params.startDelay + 56) * s.params.sampleDiv
    | .recv => (s.tcnt.toNat + 8 * (7 - s.bitn.toNat)) * s.params.sampleDiv

/-- Clock edges before the next dispatch tick (45_timebase_and_clock R210). -/
def edgesToDispatch (s : State) : Nat := s.params.dispDiv - 1 - s.pre_d

/-- The FIFO holds at most one byte, and a byte it holds is taken before another can come (70_reset R268). -/
def KeepsUp (s : State) : Prop :=
  s.count ≤ 1 ∧ (s.count = 1 → edgesToDispatch s ≤ edgesToPush s)

end Sys2Proof.Machine
end

