-- ==== Sys2Proof/Certificates/Slice0/Obligations.lean ====
section
/-! DEFINITION. The statements for the provers. Each docstring names the rule of spec/ it formalises. -/

open Sys2Proof Sys2Proof.Machine

/-! ### Encoding -/

/-- 30_encoding R75, R83: words written out from the tables decode to the operations they stand for. -/
def Obligations.WrittenWordsDecode : Prop :=
  decodeBytes [0x00, 0x11, 0x00, 0x21] = .ok (.up, [0x00, 0x21]) ∧
  decodeBytes [0x80, 0x01] = .ok (.rightStickDown, []) ∧
  decodeBytes [0x00, 0x00] = .ok (.idle0000, []) ∧
  decodeBytes [0x11, 0x00] = .ok (.unknown 0x1100, []) ∧
  decode (.ssel 0b1010 true) = .ok (.sShift true) ∧
  decode (.psel 1 0x05) = .ok (.fDrop 0x05) ∧
  decode (.bsel 0b10) = .ok .faSecond ∧
  decode (.tsel 0b11) = .ok .dTimeout ∧
  decode (.wsel 0b10 .left) = .ok (.mRev .left)

/-- Decode and encode agree, for every well-formed operation with every operand (30_encoding R75, R83). -/
def Obligations.DecodeGivesBackEveryEncodedOperation : Prop :=
  ∀ i : Instr, i.wellFormed = true → decode (encode i) = .ok i

/-- Whatever the decoder accepts is well formed (30_encoding R76, R82). -/
def Obligations.DecodedOperationsAreWellFormed : Prop :=
  ∀ (w : OpWord) (i : Instr), decode w = .ok i → i.wellFormed = true

/-- Each of the 65536 KeyCodes has one row, and the row gives back all 16 bits (30_encoding R75, R76, R73). -/
def Obligations.KeyCodesAreTotalAndLossless : Prop :=
  ∀ hi lo : Byte,
    (∃ i, decodeBytes [hi, lo] = .ok (i, []) ∧ i.wellFormed = true ∧ encodeBytes i = some [hi, lo] ∧
      encode i = .keycode (keyCodeOf hi lo)) ∧
    (keyCodeOf hi lo).toNat = 256 * hi.toNat + lo.toNat

/-- 42_frame_decoder R139, 30_encoding R75, R76: the 14 named codes have their names; a code outside the 16 listed ones is
`Unknown`; the two idle codes are `Idle`; a listed code other than those is a valid button event. DECODE writes no
register. -/
def Obligations.DecodeNamesEveryCode : Prop :=
  [0x0011, 0x0081, 0x0021, 0x0041, 0x1001, 0x8001, 0x4001, 0x2001, 0x0009, 0x0005, 0x0003, 0x0801, 0x0401, 0x0201].map
      buttonRom =
    [.up, .down, .left, .right, .rightStickUp, .rightStickDown, .rightStickLeft, .rightStickRight, .l1, .l2, .lt, .r1,
      .r2, .rt] ∧
  ∀ code : KeyCode,
    (buttonRom code = .unknown ↔ code ∉ listedCodes) ∧
    (buttonRom code = .idle ↔ code = 0x0000 ∨ code = 0x0001) ∧
    ((buttonRom code).isEvent = true ↔ code ∈ listedCodes ∧ code ≠ 0x0000 ∧ code ≠ 0x0001) ∧
    (∀ p : Config.Params, p.buttonRom = none → romName p code = buttonRom code) ∧
    ∀ s : State, exec (.decode code) s = .next s

/-- A byte sent at ideal timing is received: from HUNT with the line idle and room in the FIFO, the 72 samples of the
wire format end with exactly that byte pushed (30_encoding R70, R72; 40_sampler R109; test vector V-S2). -/
def Obligations.WireByteIsReceived : Prop :=
  ∀ (s : State) (b : Byte), Invariants s → s.params.startDelay = 12 → s.s_state = .hunt → s.prev = true →
    s.count < s.params.fifoDepth →
    ∃ t, sampleSteps (wireByte b) s = .next t ∧ fifoContents t = fifoContents s ++ [b] ∧
      t.s_state = .hunt ∧ t.prev = b.getLsbD 7 ∧ t.shreg = b ∧ t.fifo_ovf = s.fifo_ovf

/-! ### The KeyCode rows -/

/-- 43_dispatcher R153 to R156: the four direction rows, their bytes, PRESS of their name, and at the direction table of
30_encoding R78 the registers they write, and nothing else. -/
def Obligations.DirectionRowsSetCommandAndDuties : Prop :=
  decodeBytes [0x00, 0x11] = .ok (.up, []) ∧
  decodeBytes [0x00, 0x81] = .ok (.down, []) ∧
  decodeBytes [0x00, 0x21] = .ok (.left, []) ∧
  decodeBytes [0x00, 0x41] = .ok (.right, []) ∧
  ∀ s : State,
    exec .up s = exec (.press .up) s ∧ exec .down s = exec (.press .down) s ∧
    exec .left s = exec (.press .left) s ∧ exec .right s = exec (.press .right) s ∧
    let S := driveSpeed s.params
    S = max (-100) (min 100 s.params.speed) ∧ (toSpeed S).toInt = S ∧ (toSpeed (-S)).toInt = -S ∧
    (s.params.dirRom = none →
      exec .up s = .next (afterPress S S s) ∧
      exec .down s = .next (afterPress (-S) (-S) s) ∧
      exec .left s = .next (afterPress (-S) S s) ∧
      exec .right s = .next (afterPress S (-S) s))

/-- 43_dispatcher R157 to R166: the ten buttons with no direction, their bytes, PRESS of their name; at the direction
table of 30_encoding R78 they refresh the activity time, enter D_PRESSED, forward the unchanged command, and in a state
that meets the invariants leave the duties as they were. -/
def Obligations.OtherButtonsRefreshAndKeepTheCommand : Prop :=
  ∀ row ∈ [((0x10, 0x01), Instr.rightStickUp, ButtonName.rightStickUp),
      ((0x80, 0x01), .rightStickDown, .rightStickDown), ((0x40, 0x01), .rightStickLeft, .rightStickLeft),
      ((0x20, 0x01), .rightStickRight, .rightStickRight), ((0x00, 0x09), .l1, .l1), ((0x00, 0x05), .l2, .l2),
      ((0x00, 0x03), .lt, .lt), ((0x08, 0x01), .r1, .r1), ((0x04, 0x01), .r2, .r2), ((0x02, 0x01), .rt, .rt)],
    decodeBytes [row.1.1, row.1.2] = .ok (row.2.1, []) ∧
    ∀ s : State,
      exec row.2.1 s = exec (.press row.2.2) s ∧
      (s.params.dirRom = none →
        exec row.2.1 s = .next { s with
          last_act := s.now, d_state := .pressed, cmd_valid := true
          duty_lf := (wheelDuty s.params.scaleX100 s.cmd_l.toInt).1
          duty_lr := (wheelDuty s.params.scaleX100 s.cmd_l.toInt).2
          duty_rf := (wheelDuty s.params.scaleX100 s.cmd_r.toInt).1
          duty_rr := (wheelDuty s.params.scaleX100 s.cmd_r.toInt).2 } ∧
        (Invariants s →
          exec row.2.1 s = .next { s with last_act := s.now, d_state := .pressed, cmd_valid := true }))

/-- 43_dispatcher R167 to R169: the idle codes and every unlisted code change nothing. -/
def Obligations.IdleAndUnknownRowsChangeNothing : Prop :=
  decodeBytes [0x00, 0x00] = .ok (.idle0000, []) ∧
  decodeBytes [0x00, 0x01] = .ok (.idle0001, []) ∧
  (∀ hi lo : Byte, keyCodeOf hi lo ∉ listedCodes → decodeBytes [hi, lo] = .ok (.unknown (keyCodeOf hi lo), [])) ∧
  ∀ s : State, exec .idle0000 s = .next s ∧ exec .idle0001 s = .next s ∧
    ∀ code : KeyCode, exec (.unknown code) s = .next s

/-- 43_dispatcher R152: PRESS of any of the 14 table names, the command by the direction ROM or unchanged; where it is
unchanged, the duties of a state that meets the invariants are too. -/
def Obligations.PressRecordsAndForwards : Prop :=
  ∀ (s : State) (name : ButtonName), name.isEvent = true →
    (∀ l r : Int, dirRom s.params name = some (l, r) → exec (.press name) s = .next (afterPress l r s)) ∧
    (dirRom s.params name = none →
      exec (.press name) s = .next { s with
        last_act := s.now, d_state := .pressed, cmd_valid := true
        duty_lf := (wheelDuty s.params.scaleX100 s.cmd_l.toInt).1
        duty_lr := (wheelDuty s.params.scaleX100 s.cmd_l.toInt).2
        duty_rf := (wheelDuty s.params.scaleX100 s.cmd_r.toInt).1
        duty_rr := (wheelDuty s.params.scaleX100 s.cmd_r.toInt).2 } ∧
      (Invariants s → exec (.press name) s = .next { s with last_act := s.now, d_state := .pressed, cmd_valid := true }))

/-- 43_dispatcher R151: `Idle` and `Unknown` are no button events; asked for, their PRESS stops by name (the model's
choice, log 7). -/
def Obligations.PressOfNoEventIsRefused : Prop :=
  ∀ s : State, exec (.press .idle) s = .refused .notAButtonEvent ∧
    exec (.press .unknown) s = .refused .notAButtonEvent

/-! ### The sampler -/

/-- 40_sampler R101, R106: no falling edge in HUNT, only `prev` is written. -/
def Obligations.HuntOnlyTracksTheLine : Prop :=
  ∀ (s : State) (rx : Bool), s.s_state = .hunt → ¬(s.prev = true ∧ rx = false) →
    exec (.sHunt rx) s = .next { s with prev := rx } ∧ sampleStep rx s = exec (.sHunt rx) s

/-- 40_sampler R102, R106: a falling edge in HUNT enters RECV with the start delay loaded. -/
def Obligations.FallingEdgeStartsReception : Prop :=
  ∀ s : State, s.params.Legal → s.s_state = .hunt → s.prev = true →
    sampleStep false s = exec (.sStart false) s ∧
    ∃ t, exec (.sStart false) s = .next t ∧ t.tcnt.toNat = s.params.startDelay - 1 ∧
      t = { s with s_state := .recv, tcnt := t.tcnt, bitn := 0, prev := false }

/-- 40_sampler R103, R106: waiting counts down by one and never underflows. -/
def Obligations.WaitCountsDown : Prop :=
  ∀ (s : State) (rx : Bool), s.s_state = .recv → s.tcnt ≠ 0 →
    sampleStep rx s = exec (.sWait rx) s ∧
    ∃ t, exec (.sWait rx) s = .next t ∧ t.tcnt.toNat + 1 = s.tcnt.toNat ∧
      t = { s with tcnt := t.tcnt, prev := rx }

/-- 40_sampler R104, R106: a payload bit enters at bit 7, the rest move down, the next sample is 8 ticks away. -/
def Obligations.ShiftTakesOnePayloadBit : Prop :=
  ∀ (s : State) (rx : Bool), s.s_state = .recv → s.tcnt = 0 → s.bitn ≠ 7 →
    sampleStep rx s = exec (.sShift rx) s ∧
    ∃ t, exec (.sShift rx) s = .next t ∧
      t.shreg.getLsbD 7 = rx ∧ (∀ k < 7, t.shreg.getLsbD k = s.shreg.getLsbD (k + 1)) ∧
      t.bitn.toNat = s.bitn.toNat + 1 ∧ t.tcnt.toNat = 7 ∧
      t = { s with shreg := t.shreg, bitn := t.bitn, tcnt := t.tcnt, prev := rx }

/-- 40_sampler R105, R106: the last payload bit completes the byte, which is pushed or dropped, and the sampler is back
in HUNT with `tcnt` and `bitn` kept. -/
def Obligations.LastBitPushesTheByte : Prop :=
  ∀ (s : State) (rx : Bool), Invariants s → s.s_state = .recv → s.tcnt = 0 → s.bitn = 7 →
    sampleStep rx s = exec (.sLast rx) s ∧
    ∃ t, exec (.sLast rx) s = .next t ∧
      t.shreg.getLsbD 7 = rx ∧ (∀ k < 7, t.shreg.getLsbD k = s.shreg.getLsbD (k + 1)) ∧
      (s.count ≠ s.params.fifoDepth →
        t = { s with
          shreg := t.shreg, s_state := .hunt, prev := rx, mem := t.mem
          wr := (s.wr + 1) % s.params.fifoDepth, count := s.count + 1 } ∧
        ∀ a, Memory.read t.mem a = if a = s.wr then t.shreg else Memory.read s.mem a) ∧
      (s.count = s.params.fifoDepth →
        t = { s with shreg := t.shreg, s_state := .hunt, prev := rx, fifo_ovf := true })

/-- 40_sampler R107, R109: from the tick of the start edge on, START_DELAY + 56 further samples are one whole reception,
whatever the line does: exactly one byte is pushed, its bit k the sample of tick START_DELAY + 8k, and the sampler is in
HUNT again. -/
def Obligations.ReceptionTakesItsBitsAtTheirInstants : Prop :=
  ∀ (s : State) (line : List Bool), Invariants s → s.s_state = .hunt → s.prev = true → s.count < s.params.fifoDepth →
    line.length = s.params.startDelay + 56 →
    ∃ t b, sampleSteps (false :: line) s = .next t ∧
      (∀ k < 8, some (b.getLsbD k) = (false :: line)[s.params.startDelay + 8 * k]?) ∧
      fifoContents t = fifoContents s ++ [b] ∧ t.shreg = b ∧ t.s_state = .hunt ∧ t.fifo_ovf = s.fifo_ovf

/-- 40_sampler R101 and 10_state R27: a line that stays low from a low sample on starts no byte. -/
def Obligations.LowLineNeverStarts : Prop :=
  ∀ (s : State) (n : Nat), s.s_state = .hunt → s.prev = false →
    sampleSteps (List.replicate n false) s = .next s

/-- 40_sampler R110: the synchroniser shifts and writes nothing else. -/
def Obligations.SynchroniserShifts : Prop :=
  ∀ (s : State) (rxPin : Bool), exec (.xSync rxPin) s = .next { s with rx_sync := s.rx_meta, rx_meta := rxPin }

/-! ### The FIFO -/

/-- 41_fifo R121: F.PUSH writes the byte at `wr`, no other entry, and appends it to the bytes held. -/
def Obligations.PushAppends : Prop :=
  ∀ (s : State) (b : Byte), Invariants s → s.count < s.params.fifoDepth →
    ∃ t, exec (.fPush b) s = .next t ∧
      t = { s with mem := t.mem, wr := (s.wr + 1) % s.params.fifoDepth, count := s.count + 1 } ∧
      (∀ a, Memory.read t.mem a = if a = s.wr then b else Memory.read s.mem a) ∧
      fifoContents t = fifoContents s ++ [b]

/-- 41_fifo R122: F.DROP sets the flag and nothing else. The flag is sticky: no step with `rst` = 0 clears it, and it comes
to be set exactly in an edge that completes a byte into a full FIFO with no pop (10_state R13, 41_fifo R126); a reset edge
clears it. -/
def Obligations.DropSetsOnlyTheOverflowFlag : Prop :=
  (∀ (s : State) (b : Byte), s.count = s.params.fifoDepth →
    exec (.fDrop b) s = .next { s with fifo_ovf := true } ∧
    fifoContents { s with fifo_ovf := true } = fifoContents s) ∧
  ∀ s t : State, step s = .next t →
    ((pinsNow s).rst = false → s.fifo_ovf = true → t.fifo_ovf = true) ∧
    ((pinsNow s).rst = false → Invariants s → s.fifo_ovf = false →
      (t.fifo_ovf = true ↔
        sampleTick s = true ∧ s.s_state = .recv ∧ s.tcnt = 0 ∧ s.bitn = 7 ∧ s.count = s.params.fifoDepth ∧
        dispatchTick s = false)) ∧
    ((pinsNow s).rst = true → t.fifo_ovf = false)

/-- 41_fifo R123: F.POP removes the oldest byte and writes `rd` and `count` only. -/
def Obligations.PopRemovesTheOldest : Prop :=
  ∀ s : State, Invariants s → s.count ≠ 0 →
    ∃ t, exec .fPop s = .next t ∧
      t = { s with rd := (s.rd + 1) % s.params.fifoDepth, count := s.count - 1 } ∧
      fifoContents s = Memory.read s.mem s.rd :: fifoContents t

/-- 20_memory R57: a FIFO index that does not exist is a fault, and no state that meets the invariants has one (the
fault is the model's own, log 8). -/
def Obligations.MissingFifoIndexFaults : Prop :=
  ∀ (s : State) (b : Byte),
    (s.params.fifoDepth ≤ s.rd → s.count ≠ 0 → exec .fPop s = .fault .fifoIndexOutOfRange) ∧
    (s.params.fifoDepth ≤ s.wr → s.count ≠ s.params.fifoDepth →
      exec (.fPush b) s = .fault .fifoIndexOutOfRange) ∧
    (Invariants s → s.rd < s.params.fifoDepth ∧ s.wr < s.params.fifoDepth)

/-- 41_fifo R126: a sample step that completes a byte in an edge, with and without a dispatch step that pops. With a pop
the push succeeds even into a full FIFO and `count` is unchanged; a pop does not see the byte being pushed; without a pop
the byte is pushed where there is room and dropped where there is none. -/
def Obligations.PushAndPopInOneCycle : Prop :=
  ∀ (s : State) (rxPin : Bool), Invariants s → sampleTick s = true → s.s_state = .recv → s.tcnt = 0 → s.bitn = 7 →
    ∃ t, clkStep rxPin s = .next t ∧
      let b := shiftIn s.rx_sync s.shreg
      if dispatchTick s = true ∧ s.count ≠ 0 then
        t.count = s.count ∧ t.fifo_ovf = s.fifo_ovf ∧
        t.rd = (s.rd + 1) % s.params.fifoDepth ∧ t.wr = (s.wr + 1) % s.params.fifoDepth ∧
        Memory.read t.mem s.wr = b ∧ fifoContents t = (fifoContents s).tail ++ [b]
      else if s.count < s.params.fifoDepth then
        t.count = s.count + 1 ∧ t.fifo_ovf = s.fifo_ovf ∧ t.rd = s.rd ∧ t.wr = (s.wr + 1) % s.params.fifoDepth ∧
        t.await_first = s.await_first ∧ t.stored = s.stored ∧ fifoContents t = fifoContents s ++ [b]
      else
        t.count = s.count ∧ t.fifo_ovf = true ∧ t.rd = s.rd ∧ t.wr = s.wr ∧ t.mem = s.mem

/-! ### The frame assembler -/

/-- 42_frame_decoder R135, R136: no byte, nothing changes; a first byte is kept and the flag flipped. -/
def Obligations.AssemblerKeepsTheFirstByte : Prop :=
  ∀ s : State,
    (s.count = 0 → exec .bNone s = .next s) ∧
    (s.count ≠ 0 → s.await_first = true → s.rd < s.params.fifoDepth →
      exec .faFirst s = .next { s with
        stored := Memory.read s.mem s.rd, await_first := false
        rd := (s.rd + 1) % s.params.fifoDepth, count := s.count - 1 })

/-- 42_frame_decoder R137, R141: the second byte completes the KeyCode; the diagnostic registers show it, whatever its
name, and the row it selects is performed on that state. -/
def Obligations.SecondByteDispatchesTheFrame : Prop :=
  ∀ s : State, s.count ≠ 0 → s.await_first = false → s.rd < s.params.fifoDepth →
    let code := keyCodeOf s.stored (Memory.read s.mem s.rd)
    let name := romName s.params code
    (s.params.buttonRom = none → keyCodeRow name code = decodeKeyCode code) ∧
    exec .faSecond s = exec (keyCodeRow name code) { s with
      rd := (s.rd + 1) % s.params.fifoDepth, count := s.count - 1, await_first := true
      dbg_code := code, dbg_name := name.code, dbg_valid := true } ∧
    ∃ t, exec .faSecond s = .next t ∧ t.await_first = true ∧ t.stored = s.stored ∧ t.mem = s.mem ∧
      t.rd = (s.rd + 1) % s.params.fifoDepth ∧ t.count = s.count - 1 ∧
      t.dbg_code = code ∧ t.dbg_name = name.code ∧ t.dbg_valid = true ∧
      (t.d_state = .pressed ↔ s.d_state = .pressed ∨ name.isEvent = true) ∧
      t.last_act = (if name.isEvent then s.now else s.last_act)

/-- 60_exceptions R231, 70_reset R273, 42_frame_decoder R140: the low byte of one listed code paired with the high byte of
another is never a valid button event: it changes neither the command nor a duty register, and does not hold off the
timeout. -/
def Obligations.MisalignedListedCodesNeverDrive : Prop :=
  ∀ (s : State) (c1 c2 : KeyCode), s.params.buttonRom = none → c1 ∈ listedCodes → c2 ∈ listedCodes →
    s.count ≠ 0 → s.await_first = false → s.rd < s.params.fifoDepth →
    s.stored = loByte c1 → Memory.read s.mem s.rd = hiByte c2 →
    eventNow s = none ∧
    ∃ t, exec .faSecond s = .next t ∧ t.d_state = s.d_state ∧ t.last_act = s.last_act ∧ t.cmd_l = s.cmd_l ∧
      t.cmd_r = s.cmd_r ∧ t.duty_lf = s.duty_lf ∧ t.duty_lr = s.duty_lr ∧ t.duty_rf = s.duty_rf ∧ t.duty_rr = s.duty_rr ∧
      t.cmd_valid = s.cmd_valid

/-! ### The dispatcher -/

/-- 43_dispatcher R170: the release timeout stops the robot and writes nothing else. -/
def Obligations.TimeoutStops : Prop :=
  ∀ s : State, s.d_state = .pressed → s.params.timeout < elapsed s →
    exec .dTimeout s = .next (afterStop s)

/-- 43_dispatcher R171: no timeout, no register changes. -/
def Obligations.HoldChangesNothing : Prop :=
  ∀ s : State,
    (s.d_state = .idle → exec .dHoldIdle s = .next s) ∧
    (s.d_state = .pressed → elapsed s ≤ s.params.timeout → exec .dHoldPressed s = .next s)

/-- 43_dispatcher R172: the elapsed time is the modular difference, right across a wrap of the timer. -/
def Obligations.ElapsedTimeSurvivesTheWrap : Prop :=
  ∀ (s : State) (k : Nat), s.params.Legal → s.last_act < 2 ^ s.params.timerWidth → k < 2 ^ s.params.timerWidth →
    s.now = (s.last_act + k) % 2 ^ s.params.timerWidth →
    elapsed s = k ∧ (timeUp s = true ↔ s.params.timeout < k)

/-- 43_dispatcher R150: the dispatch step, in which M.APPLY follows PRESS or D.TIMEOUT at once (log 5), is the three-phase
step of the pseudocode, in every state; both answer the model's own fault where the read index does not exist (log 8). -/
def Obligations.DispatchStepIsItsThreePhases : Prop :=
  ∀ s : State, dispatchStep s = dispatchByPhases s

/-- 43_dispatcher R175, R174: the five rows of the dispatcher's transition table, complete; a valid button event beats
the timeout. "Forward" leaves both duty pairs at what the new command gives (44_motor_driver R190). -/
def Obligations.DispatcherFollowsItsTable : Prop :=
  ∀ s : State, Invariants s →
    ∃ t, dispatchStep s = .next t ∧
      match s.d_state, eventNow s with
      | _, some name =>
        t.d_state = .pressed ∧ t.last_act = s.now ∧ t.cmd_valid = true ∧
        t.cmd_l = ((dirRom s.params name).map fun d => toSpeed d.1).getD s.cmd_l ∧
        t.cmd_r = ((dirRom s.params name).map fun d => toSpeed d.2).getD s.cmd_r ∧
        (t.duty_lf, t.duty_lr) = wheelDuty s.params.scaleX100 t.cmd_l.toInt ∧
        (t.duty_rf, t.duty_rr) = wheelDuty s.params.scaleX100 t.cmd_r.toInt
      | .idle, none =>
        t.d_state = .idle ∧ t.last_act = s.last_act ∧ t.cmd_valid = s.cmd_valid ∧
        t.cmd_l = 0 ∧ t.cmd_r = 0 ∧ AllOff t
      | .pressed, none =>
        t.last_act = s.last_act ∧
        if s.params.timeout < elapsed s then
          t.d_state = .idle ∧ t.cmd_valid = true ∧ t.cmd_l = 0 ∧ t.cmd_r = 0 ∧ AllOff t
        else
          t.d_state = .pressed ∧ t.cmd_valid = s.cmd_valid ∧ t.cmd_l = s.cmd_l ∧ t.cmd_r = s.cmd_r ∧
          t.duty_lf = s.duty_lf ∧ t.duty_lr = s.duty_lr ∧ t.duty_rf = s.duty_rf ∧ t.duty_rr = s.duty_rr

/-- 43_dispatcher R173: in D_IDLE, along any interleaving without a valid button event, no command is forwarded and the
motors stay off: at most one stop is forwarded between two events. -/
def Obligations.IdleStaysIdleUntilAnEvent : Prop :=
  ∀ (s t : State) (es : List AgentStep), Invariants s → s.d_state = .idle → s.cmd_valid = false → noEventAlong es s →
    runAgents es s = .next t →
    t.d_state = .idle ∧ t.cmd_valid = false ∧ AllOff t

/-- 43_dispatcher R176, R177: without a valid button event, once more than TIMEOUT millisecond ticks have passed the
next dispatch step finds or makes the robot stopped, in any interleaving of the agents. -/
def Obligations.SilenceStopsTheRobot : Prop :=
  ∀ (s : State) (es : List AgentStep), Invariants s → noEventAlong (es ++ [.disp]) s →
    s.params.timeout < es.count .ms → elapsed s + es.count .ms < 2 ^ s.params.timerWidth →
    ∃ t, runAgents (es ++ [.disp]) s = .next t ∧ t.d_state = .idle ∧ t.cmd_l = 0 ∧ t.cmd_r = 0 ∧ AllOff t

/-! ### The motor driver -/

/-- 44_motor_driver R191, R192: `DutyOf` is the scaled magnitude rounded half up, clamped at 65535. -/
def Obligations.DutyRoundsHalfUp : Prop :=
  ∀ (scale : Nat) (v : Int),
    let a := (max (-100) (min 100 v)).natAbs
    let d := (dutyOf scale v).toNat
    (100 * d ≤ a * scale + 50 ∧ (a * scale + 50 < 100 * (d + 1) ∨ d = 65535)) ∧
    dutyOf scale (-v) = dutyOf scale v ∧ dutyOf 65535 60 = 39321

/-- 44_motor_driver R193 to R195: one wheel, by the sign of its clamped speed; only its two duty registers change. -/
def Obligations.WheelOperationsWriteOnePair : Prop :=
  ∀ (s : State) (w : Wheel),
    (0 < wheelSpeed w s →
      exec (.mFwd w) s = .next (setWheel w (dutyOf s.params.scaleX100 (wheelSpeed w s), 0) s)) ∧
    (wheelSpeed w s < 0 →
      exec (.mRev w) s = .next (setWheel w (0, dutyOf s.params.scaleX100 (-wheelSpeed w s)) s)) ∧
    (wheelSpeed w s = 0 → exec (.mStop w) s = .next (setWheel w (0, 0) s)) ∧
    (∀ d : Duty × Duty,
      setWheel .left d s = { s with duty_lf := d.1, duty_lr := d.2 } ∧
      setWheel .right d s = { s with duty_rf := d.1, duty_rr := d.2 })

/-- 44_motor_driver R190: M.APPLY performs, for each wheel, the operation its selector word selects, and pulses
`cmd_valid`; nothing else changes. -/
def Obligations.ApplyPerformsBothWheels : Prop :=
  ∀ s : State,
    exec .mApply s =
      andThen (exec (decodeWsel (wselOf .left s) .left) s) (fun t =>
        andThen (exec (decodeWsel (wselOf .right t) .right) t) fun u => .next { u with cmd_valid := true }) ∧
    exec .mApply s = .next { s with
      duty_lf := (wheelDuty s.params.scaleX100 s.cmd_l.toInt).1
      duty_lr := (wheelDuty s.params.scaleX100 s.cmd_l.toInt).2
      duty_rf := (wheelDuty s.params.scaleX100 s.cmd_r.toInt).1
      duty_rr := (wheelDuty s.params.scaleX100 s.cmd_r.toInt).2
      cmd_valid := true }

/-- 44_motor_driver R196, 10_state R26 (e), (f): in a state that meets the invariants one duty of each pair is 0, the two
pins of a wheel are never high together, and at the reference scale a wheel with a nonzero command has exactly one
nonzero duty. -/
def Obligations.ChannelsAreMutuallyExclusive : Prop :=
  ∀ s : State, Invariants s →
    (s.duty_lf = 0 ∨ s.duty_lr = 0) ∧ (s.duty_rf = 0 ∨ s.duty_rr = 0) ∧
    ¬((outputs s).pwm_lf = true ∧ (outputs s).pwm_lr = true) ∧
    ¬((outputs s).pwm_rf = true ∧ (outputs s).pwm_rr = true) ∧
    (s.params.scaleX100 = 65535 →
      (s.cmd_l = 0 ↔ s.duty_lf = 0 ∧ s.duty_lr = 0) ∧ (s.cmd_r = 0 ↔ s.duty_rf = 0 ∧ s.duty_rr = 0))

/-- 44_motor_driver R198: P.STEP advances the counter modulo 65535 and writes nothing else. -/
def Obligations.PwmCounterAdvances : Prop :=
  ∀ s : State,
    ∃ t, exec .pStep s = .next t ∧ t.pwm_cnt.toNat = (s.pwm_cnt.toNat + 1) % 65535 ∧
      t = { s with pwm_cnt := t.pwm_cnt }

/-- 44_motor_driver R199: over one full PWM period a pin is high for exactly as many ticks as its duty says. -/
def Obligations.PinIsHighForItsDuty : Prop :=
  ∀ (s : State) (d : Duty), s.pwm_cnt.toNat ≤ 65534 →
    ((List.range 65535).countP fun k => pinAfter k d s) = d.toNat ∧
    runAgents (List.replicate 65535 .pwm) s = .next s

/-! ### The time base and the clock edge -/

/-- 45_timebase_and_clock R211: T.MS advances `now` modulo 2^TIMER_WIDTH and writes nothing else. -/
def Obligations.MillisecondCounterAdvances : Prop :=
  ∀ s : State, exec .tMs s = .next { s with now := (s.now + 1) % 2 ^ s.params.timerWidth }

/-- 45_timebase_and_clock R210: with no reset at the edge every prescaler counts modulo its divisor. -/
def Obligations.PrescalersCountModuloTheirDivisors : Prop :=
  ∀ s t : State, Invariants s → (pinsNow s).rst = false → step s = .next t →
    t.pre_s = (s.pre_s + 1) % s.params.sampleDiv ∧ t.pre_ms = (s.pre_ms + 1) % s.params.msDiv ∧
    t.pre_d = (s.pre_d + 1) % s.params.dispDiv ∧ t.pre_p = (s.pre_p + 1) % s.params.pwmDiv

/-- 45_timebase_and_clock R212, R213: an edge performs the agents whose ticks fire, in the order dispatch, sample,
millisecond, PWM, then the synchroniser and the prescalers. That the strobes are cleared first is log 17; that the edge uses
up one level of the input ports is the model's choice, log 3. -/
def Obligations.EdgePerformsTheAgentsInOrder : Prop :=
  ∀ (s : State), (pinsNow s).rst = false →
    step s =
      andThen (runAgents
        ((if s.pre_d + 1 = s.params.dispDiv then [AgentStep.disp] else []) ++
         (if s.pre_s + 1 = s.params.sampleDiv then [AgentStep.sample s.rx_sync] else []) ++
         (if s.pre_ms + 1 = s.params.msDiv then [AgentStep.ms] else []) ++
         (if s.pre_p + 1 = s.params.pwmDiv then [AgentStep.pwm] else []))
        { s with dbg_valid := false, cmd_valid := false })
      fun t => .next { t with
        rx_sync := s.rx_meta, rx_meta := (pinsNow s).rx_pin
        pre_s := if s.pre_s + 1 = s.params.sampleDiv then 0 else s.pre_s + 1
        pre_ms := if s.pre_ms + 1 = s.params.msDiv then 0 else s.pre_ms + 1
        pre_d := if s.pre_d + 1 = s.params.dispDiv then 0 else s.pre_d + 1
        pre_p := if s.pre_p + 1 = s.params.pwmDiv then 0 else s.pre_p + 1
        input := s.input.tail, cycle := s.cycle + 1 }

/-- A step runs the decoded instruction: at an edge with no reset and a dispatch tick, when the byte in `stored` and the
oldest byte of the FIFO decode to the row i (at the button ROM of 30_encoding R75), the step is exec of i on the completed
frame, then the timeout check, then the other agents of the edge (42_frame_decoder R137, 43_dispatcher R150, 45_timebase_and_clock R212). -/
def Obligations.StepRunsTheDecodedKeyCode : Prop :=
  ∀ (s : State) (i : Instr), (pinsNow s).rst = false → s.pre_d + 1 = s.params.dispDiv → s.params.buttonRom = none →
    s.count ≠ 0 → s.await_first = false → s.rd < s.params.fifoDepth →
    decodeBytes [s.stored, Memory.read s.mem s.rd] = .ok (i, []) → i.wellFormed = true →
    step s =
      andThen (exec i (completeFrame (keyCodeOf s.stored (Memory.read s.mem s.rd)) (popped (clearStrobes s)))) fun a =>
      andThen (exec (timeoutOp a) a) fun b =>
      andThen (onTick (sampleTick s) (sampleStep s.rx_sync) b) fun c =>
      andThen (onTick (msTick s) msStep c) fun d =>
      andThen (onTick (pwmTick s) pwmStep d) fun e =>
      andThen (exec (.xSync (pinsNow s).rx_pin) e) fun f =>
      .next (consumeInput (advancePrescalers f))

/-- 10_state R20, 45_timebase_and_clock R212 step 7: after an edge with no reset the strobes tell exactly whether its
dispatch step assembled a KeyCode and whether it forwarded a command. -/
def Obligations.StrobesTellWhatTheEdgeDid : Prop :=
  ∀ s t : State, Invariants s → (pinsNow s).rst = false → step s = .next t →
    (t.dbg_valid = true ↔ dispatchTick s = true ∧ (codeNow s).isSome = true) ∧
    (t.cmd_valid = true ↔ dispatchTick s = true ∧
      ((eventNow s).isSome = true ∨ (s.d_state = .pressed ∧ s.params.timeout < elapsed s)))

/-- 70_reset R260, 10_state R27: at an edge with `rst` = 1 every register takes its reset value, whatever the state and
whatever ticks would have fired. -/
def Obligations.ResetBeatsEverything : Prop :=
  ∀ s : State, (pinsNow s).rst = true →
    ∃ t, step s = .next t ∧
      t.rx_meta = false ∧ t.rx_sync = false ∧
      t.s_state = .hunt ∧ t.prev = false ∧ t.tcnt = 0 ∧ t.bitn = 0 ∧ t.shreg = 0x00 ∧
      (∀ a, Memory.read t.mem a = 0x00) ∧ t.wr = 0 ∧ t.rd = 0 ∧ t.count = 0 ∧ t.fifo_ovf = false ∧
      t.await_first = true ∧ t.stored = 0x00 ∧
      t.d_state = .idle ∧ t.last_act = 0 ∧ t.cmd_l = 0 ∧ t.cmd_r = 0 ∧
      t.duty_lf = 0 ∧ t.duty_lr = 0 ∧ t.duty_rf = 0 ∧ t.duty_rr = 0 ∧
      t.now = 0 ∧ t.pwm_cnt = 0 ∧ t.pre_s = 0 ∧ t.pre_ms = 0 ∧ t.pre_d = 0 ∧ t.pre_p = 0 ∧
      t.dbg_code = 0x0000 ∧ t.dbg_name = 0 ∧ t.dbg_valid = false ∧ t.cmd_valid = false

/-! ### Invariants -/

/-- 10_state R26: the invariants hold at reset. -/
def Obligations.ResetMeetsTheInvariants : Prop := Invariants State.reset

/-- 10_state R26: every operation that completes keeps the invariants. -/
def Obligations.EveryOperationKeepsTheInvariants : Prop :=
  ∀ (i : Instr) (s t : State), Invariants s → exec i s = .next t → Invariants t

/-- 10_state R26: every step keeps the invariants. -/
def Obligations.EveryStepKeepsTheInvariants : Prop :=
  ∀ s t : State, Invariants s → step s = .next t → Invariants t

/-- 60_exceptions R230, 45_timebase_and_clock R214: from a state that meets the invariants every step completes: no
condition is a fault, a stuck state or a refusal. -/
def Obligations.NoStepStops : Prop :=
  ∀ s : State, Invariants s → ∃ t, step s = .next t

/-- 43_dispatcher R177: after every step from a state that meets the invariants, D_IDLE means command (0, 0) and all
four duties 0. -/
def Obligations.IdleMeansStopped : Prop :=
  ∀ s t : State, Invariants s → step s = .next t → t.d_state = .idle →
    t.cmd_l = 0 ∧ t.cmd_r = 0 ∧ AllOff t

/-- 70_reset R268: where a dispatch period is no longer than the time between two pushes, the FIFO never holds more than
one byte at a dispatch tick and no byte is dropped. -/
def Obligations.FifoNeverOverflowsAtTheDispatchRate : Prop :=
  ∀ s t : State, Invariants s → KeepsUp s → s.params.dispDiv ≤ (s.params.startDelay + 57) * s.params.sampleDiv →
    step s = .next t → KeepsUp t ∧ (t.fifo_ovf = true → s.fifo_ovf = true)

/-- 70_reset R268: the reset state holds no byte and keeps up, and its parameters meet the rate. -/
def Obligations.ResetKeepsUp : Prop :=
  State.reset.count = 0 ∧ KeepsUp State.reset ∧
  State.reset.params.dispDiv ≤ (State.reset.params.startDelay + 57) * State.reset.params.sampleDiv

/-- 00_scope R5: no operation and no step changes a parameter. -/
def Obligations.ParametersNeverChange : Prop :=
  (∀ (i : Instr) (s t : State), exec i s = .next t → t.params = s.params) ∧
  ∀ s t : State, step s = .next t → t.params = s.params

/-! ### What is kept apart -/

/-- 10_state R20, R22: no functional rule reads the diagnostic registers, the strobes or the overflow flag: two states
that differ in them only step to states that differ in them only. -/
def Obligations.DiagnosticsNeverInfluence : Prop :=
  ∀ s t : State, withoutDiagnostics s = withoutDiagnostics t → functionalPart (step s) = functionalPart (step t)

/-- 20_memory R60, 10_state R12, R13: the two timelines share the FIFO only. Writes: a sample step leaves every register but
the sampler's and the FIFO's alone, and every entry but the one at `wr`; a dispatch step leaves the sampler's registers,
`mem`, `wr` and `fifo_ovf` alone. Reads: each step gives the same result, stops included, beside any other values of the
registers that are not its own, and leaves those values as they are. -/
def Obligations.TimelinesShareOnlyTheFifo : Prop :=
  (∀ (s t : State) (rx : Bool), sampleStep rx s = .next t →
    (t = { s with
      s_state := t.s_state, prev := t.prev, tcnt := t.tcnt, bitn := t.bitn, shreg := t.shreg
      mem := t.mem, wr := t.wr, count := t.count, fifo_ovf := t.fifo_ovf }) ∧
    ∀ a, a ≠ s.wr → Memory.read t.mem a = Memory.read s.mem a) ∧
  (∀ s t : State, dispatchStep s = .next t →
    t = { s with
      rd := t.rd, count := t.count, await_first := t.await_first, stored := t.stored
      d_state := t.d_state, last_act := t.last_act, cmd_l := t.cmd_l, cmd_r := t.cmd_r
      duty_lf := t.duty_lf, duty_lr := t.duty_lr, duty_rf := t.duty_rf, duty_rr := t.duty_rr
      dbg_code := t.dbg_code, dbg_name := t.dbg_name, dbg_valid := t.dbg_valid, cmd_valid := t.cmd_valid }) ∧
  (∀ (s u : State) (rx : Bool),
    sampleStep rx (withSamplerOf s u) = andThen (sampleStep rx s) fun t => .next (withSamplerOf t u)) ∧
  ∀ s u : State,
    dispatchStep (withDispatchOf s u) = andThen (dispatchStep s) fun t => .next (withDispatchOf t u)

/-- 30_encoding R82, R83: an operation that a selector word chooses completes or faults where the word selects it, and is
refused by name where it does not (the refusal is the model's own, log 6). -/
def Obligations.OnlyTheSelectedOperationRuns : Prop :=
  ∀ (s : State) (rx : Bool) (b : Byte) (w : Wheel),
    (∀ i ∈ [Instr.sHunt rx, .sStart rx, .sWait rx, .sShift rx, .sLast rx],
      exec i s = .refused .notSelected ↔ i ≠ decodeSsel (sselOf rx s) rx) ∧
    (∀ i ∈ [Instr.fPush b, .fDrop b], exec i s = .refused .notSelected ↔ i ≠ decodePsel (pselOf s) b) ∧
    (∀ i ∈ [Instr.bNone, .faFirst, .faSecond], exec i s = .refused .notSelected ↔ i ≠ decodeBsel (bselOf s)) ∧
    (exec .fPop s = .refused .notSelected ↔ s.count = 0) ∧
    (∀ i ∈ [Instr.dTimeout, .dHoldIdle, .dHoldPressed],
      exec i s = .refused .notSelected ↔ i ≠ decodeTsel (tselOf s)) ∧
    ∀ i ∈ [Instr.mFwd w, .mRev w, .mStop w], exec i s = .refused .notSelected ↔ i ≠ decodeWsel (wselOf w s) w
end

