-- ==== Sys2Proof/Laws/Arithmetic.lean ====
section
/-! SUPPORT. The arithmetic of spec 44_motor_driver R191, R192, R202. -/

namespace Sys2Proof.Machine

/-- `Clamp` stays in range (44_motor_driver R191). -/
theorem clamp_range (v : Int) : -100 ≤ clamp v ∧ clamp v ≤ 100 := by
  unfold clamp
  omega

/-- On a value in range `Clamp` is the identity (44_motor_driver R191). -/
theorem clamp_of_mem {v : Int} (h : -100 ≤ v ∧ v ≤ 100) : clamp v = v := by
  unfold clamp
  omega

@[simp] theorem clamp_clamp (v : Int) : clamp (clamp v) = clamp v := clamp_of_mem (clamp_range v)

/-- A speed of the direction ROM is in range, whatever the ROM (44_motor_driver R191). -/
theorem dirRom_range {p : Config.Params} {name : ButtonName} {l r : Int} (h : dirRom p name = some (l, r)) :
    (-100 ≤ l ∧ l ≤ 100) ∧ (-100 ≤ r ∧ r ≤ 100) := by
  have hs := clamp_range p.speed
  unfold dirRom at h
  split at h
  · cases name <;> simp [directionTable, driveSpeed] at h <;> omega
  · rw [Option.map_eq_some_iff] at h
    obtain ⟨d, -, hd⟩ := h
    simp only [Prod.mk.injEq] at hd
    exact ⟨hd.1 ▸ clamp_range _, hd.2 ▸ clamp_range _⟩

/-- A speed in range is what its register reads back as (30_encoding R79). -/
theorem toInt_toSpeed {v : Int} (h : -100 ≤ v ∧ v ≤ 100) : (toSpeed v).toInt = v := by
  unfold toSpeed
  rw [BitVec.toInt_ofInt]
  simp only [Int.bmod]
  omega

/-- The new bit enters at bit 7, the rest move down (30_encoding R72). -/
theorem getLsbD_shiftIn (rx : Bool) (v : Byte) (k : Nat) :
    (shiftIn rx v).getLsbD k = if k = 7 then rx else v.getLsbD (k + 1) := by
  by_cases hk : k = 7
  · subst hk
    cases rx <;> simp [shiftIn]
  · have h0 : (128#8).getLsbD k = false := by
      by_cases h8 : k < 8
      · interval_cases k <;> first | rfl | omega
      · exact BitVec.getLsbD_of_ge _ _ (by omega)
    cases rx <;> simp [shiftIn, BitVec.getLsbD_or, BitVec.getLsbD_ushiftRight, hk, h0, Nat.add_comm 1 k]

/-- An event at this millisecond has no elapsed time, whatever the width (43_dispatcher R172). -/
@[simp] theorem modSub_self (width a : Nat) : modSub width a a = 0 := by
  simp [modSub]

/-- The elapsed time fits the timer (43_dispatcher R172). -/
theorem modSub_lt (width a b : Nat) : modSub width a b < 2 ^ width := by
  have hpos : (0 : Int) < ((2 ^ width : Nat) : Int) := by exact_mod_cast Nat.two_pow_pos width
  have h1 := Int.emod_nonneg ((a : Int) - b) (by omega : ((2 ^ width : Nat) : Int) ≠ 0)
  have h2 := Int.emod_lt_of_pos ((a : Int) - b) hpos
  unfold modSub
  omega

/-- One duty of a wheel is 0 (44_motor_driver R196). -/
theorem wheelDuty_exclusive (scale : Nat) (v : Int) : (wheelDuty scale v).1 = 0 ∨ (wheelDuty scale v).2 = 0 := by
  simp only [wheelDuty]
  split
  · exact .inr rfl
  · split
    · exact .inl rfl
    · exact .inl rfl

@[simp] theorem wheelDuty_zero (scale : Nat) : wheelDuty scale 0 = (0, 0) := rfl

/-- A prescaler stays below its divisor (10_state R19). -/
theorem fires_iff (pre div : Nat) : fires pre div = true ↔ pre + 1 = div := by
  simp [fires]

end Sys2Proof.Machine
end

