-- ==== Sys2Proof/Laws/PerInstr.lean ====
section
/-! SUPPORT. Statements made for all operations, one lemma per constructor. -/

namespace Sys2Proof.Laws.Roundtrip

/-- The decoder gives a well-formed operation back from its operation word. -/
def Statement (i : Instr) : Prop := i.wellFormed = true → Sys2Proof.decode (encode i) = .ok i

theorem up : Statement .up := fun _ => rfl

theorem down : Statement .down := fun _ => rfl

theorem left : Statement .left := fun _ => rfl

theorem right : Statement .right := fun _ => rfl

theorem rightStickUp : Statement .rightStickUp := fun _ => rfl

theorem rightStickDown : Statement .rightStickDown := fun _ => rfl

theorem rightStickLeft : Statement .rightStickLeft := fun _ => rfl

theorem rightStickRight : Statement .rightStickRight := fun _ => rfl

theorem l1 : Statement .l1 := fun _ => rfl

theorem l2 : Statement .l2 := fun _ => rfl

theorem lt : Statement .lt := fun _ => rfl

theorem r1 : Statement .r1 := fun _ => rfl

theorem r2 : Statement .r2 := fun _ => rfl

theorem rt : Statement .rt := fun _ => rfl

theorem idle0000 : Statement .idle0000 := fun _ => rfl

theorem idle0001 : Statement .idle0001 := fun _ => rfl

/-- A code outside the 16 exact rows has no name (30_encoding R76). -/
theorem buttonRom_of_not_listed {code : KeyCode} (h : listedCodes.contains code = false) : buttonRom code = .unknown := by
  simp only [listedCodes, List.contains_cons, List.contains_nil, Bool.or_false, Bool.or_eq_false_iff] at h
  obtain ⟨h1, h2, h3, h4, h5, h6, h7, h8, h9, h10, h11, h12, h13, h14, h15, h16⟩ := h
  simp only [buttonRom, buttonRows, List.lookup_cons, List.lookup_nil, h1, h2, h3, h4, h5, h6, h7, h8, h9, h10, h11, h12,
    h13, h14, h15, h16, Option.getD_none]

theorem unknown (code : KeyCode) : Statement (.unknown code) := by
  intro h
  have h' : listedCodes.contains code = false := by simpa [Instr.wellFormed] using h
  simp only [encode, Sys2Proof.decode, decodeKeyCode, keyCodeRow, buttonRom_of_not_listed h']

theorem sHunt (rx : Bool) : Statement (.sHunt rx) := fun _ => rfl

theorem sStart (rx : Bool) : Statement (.sStart rx) := by
  cases rx
  · exact fun _ => rfl
  · exact fun h => absurd h (by decide)

theorem sWait (rx : Bool) : Statement (.sWait rx) := fun _ => rfl

theorem sShift (rx : Bool) : Statement (.sShift rx) := fun _ => rfl

theorem sLast (rx : Bool) : Statement (.sLast rx) := fun _ => rfl

theorem fPush (b : Byte) : Statement (.fPush b) := fun _ => rfl

theorem fDrop (b : Byte) : Statement (.fDrop b) := fun _ => rfl

theorem fPop : Statement .fPop := fun _ => rfl

theorem bNone : Statement .bNone := fun _ => rfl

theorem faFirst : Statement .faFirst := fun _ => rfl

theorem faSecond : Statement .faSecond := fun _ => rfl

theorem dTimeout : Statement .dTimeout := fun _ => rfl

theorem dHoldIdle : Statement .dHoldIdle := fun _ => rfl

theorem dHoldPressed : Statement .dHoldPressed := fun _ => rfl

theorem mFwd (w : Wheel) : Statement (.mFwd w) := fun _ => rfl

theorem mRev (w : Wheel) : Statement (.mRev w) := fun _ => rfl

theorem mStop (w : Wheel) : Statement (.mStop w) := fun _ => rfl

theorem decode (code : KeyCode) : Statement (.decode code) := fun _ => rfl

theorem press (name : ButtonName) : Statement (.press name) := by
  intro h
  have h' : name.isEvent = true := h
  simp only [encode, Sys2Proof.decode, h', if_true]

theorem mApply : Statement .mApply := fun _ => rfl

theorem tMs : Statement .tMs := fun _ => rfl

theorem pStep : Statement .pStep := fun _ => rfl

theorem xSync (rxPin : Bool) : Statement (.xSync rxPin) := fun _ => rfl

end Sys2Proof.Laws.Roundtrip
end

