-- ==== Sys2Proof/Laws/KeyCodes.lean ====
section
/-! SUPPORT. The listed KeyCodes case by case, and the two bytes of a KeyCode (spec 30_encoding R73, R75). -/

namespace Sys2Proof

/-- What holds of each of the 16 listed codes holds of all. -/
theorem forall_listed {P : KeyCode → Prop}
    (h : P 0x0011 ∧ P 0x0081 ∧ P 0x0021 ∧ P 0x0041 ∧ P 0x1001 ∧ P 0x8001 ∧ P 0x4001 ∧ P 0x2001 ∧
      P 0x0009 ∧ P 0x0005 ∧ P 0x0003 ∧ P 0x0801 ∧ P 0x0401 ∧ P 0x0201 ∧ P 0x0000 ∧ P 0x0001)
    {code : KeyCode} (hc : code ∈ listedCodes) : P code := by
  simp only [listedCodes, List.mem_cons, List.not_mem_nil, or_false] at hc
  rcases hc with rfl | rfl | rfl | rfl | rfl | rfl | rfl | rfl | rfl | rfl | rfl | rfl | rfl | rfl | rfl | rfl <;>
    simp_all only

/-- A code is listed, or its name is `Unknown` (30_encoding R76). -/
theorem listed_or_unknown (code : KeyCode) :
    code ∈ listedCodes ∨ (code ∉ listedCodes ∧ buttonRom code = .unknown) := by
  by_cases h : listedCodes.contains code = true
  · exact .inl (by simpa using h)
  · exact .inr ⟨by simpa using h, Laws.Roundtrip.buttonRom_of_not_listed (by simpa using h)⟩

/-- Bits 7 to 0 are the second byte, bits 15 to 8 the first (30_encoding R73). -/
theorem getLsbD_keyCodeOf (hi lo : Byte) (k : Nat) :
    (keyCodeOf hi lo).getLsbD k = if k < 8 then lo.getLsbD k else hi.getLsbD (k - 8) := by
  simp only [keyCodeOf, BitVec.getLsbD_or, BitVec.getLsbD_shiftLeft, BitVec.getLsbD_setWidth]
  by_cases hk : k < 8
  · have : k < 16 := by omega
    simp [hk, this]
  · have hl : lo.getLsbD k = false := BitVec.getLsbD_of_ge _ _ (by omega)
    by_cases h16 : k < 16
    · have : k - 8 < 16 := by omega
      simp [hk, hl, h16, this]
    · have hh : hi.getLsbD (k - 8) = false := BitVec.getLsbD_of_ge _ _ (by omega)
      simp [hk, hl, h16, hh]

@[simp] theorem hiByte_keyCodeOf (hi lo : Byte) : hiByte (keyCodeOf hi lo) = hi := by
  apply BitVec.eq_of_getLsbD_eq
  intro k hk
  have : ¬ 8 + k < 8 := by omega
  simp only [hiByte, BitVec.getLsbD_extractLsb', getLsbD_keyCodeOf, hk, this, decide_true, Bool.true_and, if_false,
    Nat.add_sub_cancel_left]

@[simp] theorem loByte_keyCodeOf (hi lo : Byte) : loByte (keyCodeOf hi lo) = lo := by
  apply BitVec.eq_of_getLsbD_eq
  intro k hk
  simp only [loByte, BitVec.getLsbD_extractLsb', getLsbD_keyCodeOf, Nat.zero_add, hk, decide_true, Bool.true_and, if_true]

end Sys2Proof
end

