-- ==== Sys2Proof/Laws/Selection.lean ====
section
/-! SUPPORT. What each selector word selects, in terms of the registers it is made of (spec 30_encoding R82, R83). -/

namespace Sys2Proof.Machine

theorem getLsbD_ofBool_pair (a b : Bool) :
    (BitVec.ofBool a ++ BitVec.ofBool b).getLsbD 1 = a ∧ (BitVec.ofBool a ++ BitVec.ofBool b).getLsbD 0 = b := by
  cases a <;> cases b <;> decide

theorem hasData_iff (s : State) : hasData s = true ↔ s.count ≠ 0 := by simp [hasData]

theorem full_iff (s : State) : full s = true ↔ s.count = s.params.fifoDepth := by simp [full]

theorem pressed_iff (s : State) : pressed s = true ↔ s.d_state = .pressed := by simp [pressed]

theorem timeUp_iff (s : State) : timeUp s = true ↔ s.params.timeout < elapsed s := by simp [timeUp]

/-- The timeout depends on the timer, the activity time and the parameters only (43_dispatcher R172). -/
theorem timeUp_congr {s t : State} (hp : t.params = s.params) (hn : t.now = s.now) (hl : t.last_act = s.last_act) :
    timeUp t = timeUp s := by
  rw [Bool.eq_iff_iff, timeUp_iff, timeUp_iff, elapsed, elapsed, hp, hn, hl]

theorem pressed_congr {s t : State} (h : t.d_state = s.d_state) : pressed t = pressed s := by
  simp only [pressed, h]

/-- The sample operation, case by case (40_sampler R100). -/
theorem sampleOp_eq (rx : Bool) (s : State) :
    sampleOp rx s =
      match s.s_state with
      | .hunt => if edge rx s then .sStart rx else .sHunt rx
      | .recv => if s.tcnt = 0 then (if s.bitn = 7 then .sLast rx else .sShift rx) else .sWait rx := by
  have key : ∀ a b c d : Bool,
      decodeSsel (BitVec.ofBool a ++ BitVec.ofBool b ++ BitVec.ofBool c ++ BitVec.ofBool d) rx =
        if a then (if c then (if d then .sLast rx else .sShift rx) else .sWait rx)
        else if b then .sStart rx else .sHunt rx := by
    intro a b c d
    cases a <;> cases b <;> cases c <;> cases d <;> rfl
  rw [sampleOp, sselOf, key]
  cases s.s_state <;> simp

/-- The operation of phase 1, case by case (42_frame_decoder R142). -/
theorem byteOp_eq (s : State) :
    byteOp s = if hasData s then (if s.await_first then .faFirst else .faSecond) else .bNone := by
  have key : ∀ a b : Bool, decodeBsel (BitVec.ofBool a ++ BitVec.ofBool b) =
      if a then (if b then .faFirst else .faSecond) else .bNone := by
    intro a b
    cases a <;> cases b <;> rfl
  rw [byteOp, bselOf, key]

/-- The operation of phase 2, case by case (43_dispatcher R170, R171). -/
theorem timeoutOp_eq (s : State) :
    timeoutOp s = if pressed s then (if timeUp s then .dTimeout else .dHoldPressed) else .dHoldIdle := by
  have key : ∀ a b : Bool, decodeTsel (BitVec.ofBool a ++ BitVec.ofBool b) =
      if a then (if b then .dTimeout else .dHoldPressed) else .dHoldIdle := by
    intro a b
    cases a <;> cases b <;> rfl
  rw [timeoutOp, tselOf, key]

/-- The wheel operation, case by case (44_motor_driver R193 to R195). -/
theorem decodeWsel_wselOf (w : Wheel) (s : State) :
    decodeWsel (wselOf w s) w =
      if wheelSpeed w s = 0 then .mStop w else if wheelSpeed w s < 0 then .mRev w else .mFwd w := by
  have key : ∀ a b : Bool, decodeWsel (BitVec.ofBool a ++ BitVec.ofBool b) w =
      if b then .mStop w else if a then .mRev w else .mFwd w := by
    intro a b
    cases a <;> cases b <;> rfl
  rw [wselOf, key]
  simp

/-- The push operation, case by case (41_fifo R121, R122). -/
theorem decodePsel_pselOf (b : Byte) (s : State) :
    decodePsel (pselOf s) b = if full s then .fDrop b else .fPush b := by
  rw [pselOf]
  cases full s <;> rfl

end Sys2Proof.Machine
end

