-- ==== Sys2Proof/Laws/State.lean ====
section
/-! SUPPORT. One lemma per field per named update of the state, so that no proof unfolds an update. -/

namespace Sys2Proof.Machine

@[simp] theorem dropByte_rx_meta (s : State) : (dropByte s).rx_meta = s.rx_meta := rfl
@[simp] theorem dropByte_rx_sync (s : State) : (dropByte s).rx_sync = s.rx_sync := rfl
@[simp] theorem dropByte_s_state (s : State) : (dropByte s).s_state = s.s_state := rfl
@[simp] theorem dropByte_prev (s : State) : (dropByte s).prev = s.prev := rfl
@[simp] theorem dropByte_tcnt (s : State) : (dropByte s).tcnt = s.tcnt := rfl
@[simp] theorem dropByte_bitn (s : State) : (dropByte s).bitn = s.bitn := rfl
@[simp] theorem dropByte_shreg (s : State) : (dropByte s).shreg = s.shreg := rfl
@[simp] theorem dropByte_mem (s : State) : (dropByte s).mem = s.mem := rfl
@[simp] theorem dropByte_wr (s : State) : (dropByte s).wr = s.wr := rfl
@[simp] theorem dropByte_rd (s : State) : (dropByte s).rd = s.rd := rfl
@[simp] theorem dropByte_count (s : State) : (dropByte s).count = s.count := rfl
@[simp] theorem dropByte_fifo_ovf (s : State) : (dropByte s).fifo_ovf = true := rfl
@[simp] theorem dropByte_await_first (s : State) : (dropByte s).await_first = s.await_first := rfl
@[simp] theorem dropByte_stored (s : State) : (dropByte s).stored = s.stored := rfl
@[simp] theorem dropByte_d_state (s : State) : (dropByte s).d_state = s.d_state := rfl
@[simp] theorem dropByte_last_act (s : State) : (dropByte s).last_act = s.last_act := rfl
@[simp] theorem dropByte_cmd_l (s : State) : (dropByte s).cmd_l = s.cmd_l := rfl
@[simp] theorem dropByte_cmd_r (s : State) : (dropByte s).cmd_r = s.cmd_r := rfl
@[simp] theorem dropByte_duty_lf (s : State) : (dropByte s).duty_lf = s.duty_lf := rfl
@[simp] theorem dropByte_duty_lr (s : State) : (dropByte s).duty_lr = s.duty_lr := rfl
@[simp] theorem dropByte_duty_rf (s : State) : (dropByte s).duty_rf = s.duty_rf := rfl
@[simp] theorem dropByte_duty_rr (s : State) : (dropByte s).duty_rr = s.duty_rr := rfl
@[simp] theorem dropByte_now (s : State) : (dropByte s).now = s.now := rfl
@[simp] theorem dropByte_pwm_cnt (s : State) : (dropByte s).pwm_cnt = s.pwm_cnt := rfl
@[simp] theorem dropByte_pre_s (s : State) : (dropByte s).pre_s = s.pre_s := rfl
@[simp] theorem dropByte_pre_ms (s : State) : (dropByte s).pre_ms = s.pre_ms := rfl
@[simp] theorem dropByte_pre_d (s : State) : (dropByte s).pre_d = s.pre_d := rfl
@[simp] theorem dropByte_pre_p (s : State) : (dropByte s).pre_p = s.pre_p := rfl
@[simp] theorem dropByte_dbg_code (s : State) : (dropByte s).dbg_code = s.dbg_code := rfl
@[simp] theorem dropByte_dbg_name (s : State) : (dropByte s).dbg_name = s.dbg_name := rfl
@[simp] theorem dropByte_dbg_valid (s : State) : (dropByte s).dbg_valid = s.dbg_valid := rfl
@[simp] theorem dropByte_cmd_valid (s : State) : (dropByte s).cmd_valid = s.cmd_valid := rfl
@[simp] theorem dropByte_params (s : State) : (dropByte s).params = s.params := rfl
@[simp] theorem dropByte_input (s : State) : (dropByte s).input = s.input := rfl
@[simp] theorem dropByte_cycle (s : State) : (dropByte s).cycle = s.cycle := rfl

@[simp] theorem popped_rx_meta (s : State) : (popped s).rx_meta = s.rx_meta := rfl
@[simp] theorem popped_rx_sync (s : State) : (popped s).rx_sync = s.rx_sync := rfl
@[simp] theorem popped_s_state (s : State) : (popped s).s_state = s.s_state := rfl
@[simp] theorem popped_prev (s : State) : (popped s).prev = s.prev := rfl
@[simp] theorem popped_tcnt (s : State) : (popped s).tcnt = s.tcnt := rfl
@[simp] theorem popped_bitn (s : State) : (popped s).bitn = s.bitn := rfl
@[simp] theorem popped_shreg (s : State) : (popped s).shreg = s.shreg := rfl
@[simp] theorem popped_mem (s : State) : (popped s).mem = s.mem := rfl
@[simp] theorem popped_wr (s : State) : (popped s).wr = s.wr := rfl
@[simp] theorem popped_rd (s : State) : (popped s).rd = nextIndex s s.rd := rfl
@[simp] theorem popped_count (s : State) : (popped s).count = s.count - 1 := rfl
@[simp] theorem popped_fifo_ovf (s : State) : (popped s).fifo_ovf = s.fifo_ovf := rfl
@[simp] theorem popped_await_first (s : State) : (popped s).await_first = s.await_first := rfl
@[simp] theorem popped_stored (s : State) : (popped s).stored = s.stored := rfl
@[simp] theorem popped_d_state (s : State) : (popped s).d_state = s.d_state := rfl
@[simp] theorem popped_last_act (s : State) : (popped s).last_act = s.last_act := rfl
@[simp] theorem popped_cmd_l (s : State) : (popped s).cmd_l = s.cmd_l := rfl
@[simp] theorem popped_cmd_r (s : State) : (popped s).cmd_r = s.cmd_r := rfl
@[simp] theorem popped_duty_lf (s : State) : (popped s).duty_lf = s.duty_lf := rfl
@[simp] theorem popped_duty_lr (s : State) : (popped s).duty_lr = s.duty_lr := rfl
@[simp] theorem popped_duty_rf (s : State) : (popped s).duty_rf = s.duty_rf := rfl
@[simp] theorem popped_duty_rr (s : State) : (popped s).duty_rr = s.duty_rr := rfl
@[simp] theorem popped_now (s : State) : (popped s).now = s.now := rfl
@[simp] theorem popped_pwm_cnt (s : State) : (popped s).pwm_cnt = s.pwm_cnt := rfl
@[simp] theorem popped_pre_s (s : State) : (popped s).pre_s = s.pre_s := rfl
@[simp] theorem popped_pre_ms (s : State) : (popped s).pre_ms = s.pre_ms := rfl
@[simp] theorem popped_pre_d (s : State) : (popped s).pre_d = s.pre_d := rfl
@[simp] theorem popped_pre_p (s : State) : (popped s).pre_p = s.pre_p := rfl
@[simp] theorem popped_dbg_code (s : State) : (popped s).dbg_code = s.dbg_code := rfl
@[simp] theorem popped_dbg_name (s : State) : (popped s).dbg_name = s.dbg_name := rfl
@[simp] theorem popped_dbg_valid (s : State) : (popped s).dbg_valid = s.dbg_valid := rfl
@[simp] theorem popped_cmd_valid (s : State) : (popped s).cmd_valid = s.cmd_valid := rfl
@[simp] theorem popped_params (s : State) : (popped s).params = s.params := rfl
@[simp] theorem popped_input (s : State) : (popped s).input = s.input := rfl
@[simp] theorem popped_cycle (s : State) : (popped s).cycle = s.cycle := rfl

@[simp] theorem applyCommand_rx_meta (l r : Speed) (s : State) : (applyCommand l r s).rx_meta = s.rx_meta := rfl
@[simp] theorem applyCommand_rx_sync (l r : Speed) (s : State) : (applyCommand l r s).rx_sync = s.rx_sync := rfl
@[simp] theorem applyCommand_s_state (l r : Speed) (s : State) : (applyCommand l r s).s_state = s.s_state := rfl
@[simp] theorem applyCommand_prev (l r : Speed) (s : State) : (applyCommand l r s).prev = s.prev := rfl
@[simp] theorem applyCommand_tcnt (l r : Speed) (s : State) : (applyCommand l r s).tcnt = s.tcnt := rfl
@[simp] theorem applyCommand_bitn (l r : Speed) (s : State) : (applyCommand l r s).bitn = s.bitn := rfl
@[simp] theorem applyCommand_shreg (l r : Speed) (s : State) : (applyCommand l r s).shreg = s.shreg := rfl
@[simp] theorem applyCommand_mem (l r : Speed) (s : State) : (applyCommand l r s).mem = s.mem := rfl
@[simp] theorem applyCommand_wr (l r : Speed) (s : State) : (applyCommand l r s).wr = s.wr := rfl
@[simp] theorem applyCommand_rd (l r : Speed) (s : State) : (applyCommand l r s).rd = s.rd := rfl
@[simp] theorem applyCommand_count (l r : Speed) (s : State) : (applyCommand l r s).count = s.count := rfl
@[simp] theorem applyCommand_fifo_ovf (l r : Speed) (s : State) : (applyCommand l r s).fifo_ovf = s.fifo_ovf := rfl
@[simp] theorem applyCommand_await_first (l r : Speed) (s : State) : (applyCommand l r s).await_first = s.await_first := rfl
@[simp] theorem applyCommand_stored (l r : Speed) (s : State) : (applyCommand l r s).stored = s.stored := rfl
@[simp] theorem applyCommand_d_state (l r : Speed) (s : State) : (applyCommand l r s).d_state = s.d_state := rfl
@[simp] theorem applyCommand_last_act (l r : Speed) (s : State) : (applyCommand l r s).last_act = s.last_act := rfl
@[simp] theorem applyCommand_cmd_l (l r : Speed) (s : State) : (applyCommand l r s).cmd_l = s.cmd_l := rfl
@[simp] theorem applyCommand_cmd_r (l r : Speed) (s : State) : (applyCommand l r s).cmd_r = s.cmd_r := rfl
@[simp] theorem applyCommand_duty_lf (l r : Speed) (s : State) : (applyCommand l r s).duty_lf = (wheelDuty s.params.scaleX100 l.toInt).1 := rfl
@[simp] theorem applyCommand_duty_lr (l r : Speed) (s : State) : (applyCommand l r s).duty_lr = (wheelDuty s.params.scaleX100 l.toInt).2 := rfl
@[simp] theorem applyCommand_duty_rf (l r : Speed) (s : State) : (applyCommand l r s).duty_rf = (wheelDuty s.params.scaleX100 r.toInt).1 := rfl
@[simp] theorem applyCommand_duty_rr (l r : Speed) (s : State) : (applyCommand l r s).duty_rr = (wheelDuty s.params.scaleX100 r.toInt).2 := rfl
@[simp] theorem applyCommand_now (l r : Speed) (s : State) : (applyCommand l r s).now = s.now := rfl
@[simp] theorem applyCommand_pwm_cnt (l r : Speed) (s : State) : (applyCommand l r s).pwm_cnt = s.pwm_cnt := rfl
@[simp] theorem applyCommand_pre_s (l r : Speed) (s : State) : (applyCommand l r s).pre_s = s.pre_s := rfl
@[simp] theorem applyCommand_pre_ms (l r : Speed) (s : State) : (applyCommand l r s).pre_ms = s.pre_ms := rfl
@[simp] theorem applyCommand_pre_d (l r : Speed) (s : State) : (applyCommand l r s).pre_d = s.pre_d := rfl
@[simp] theorem applyCommand_pre_p (l r : Speed) (s : State) : (applyCommand l r s).pre_p = s.pre_p := rfl
@[simp] theorem applyCommand_dbg_code (l r : Speed) (s : State) : (applyCommand l r s).dbg_code = s.dbg_code := rfl
@[simp] theorem applyCommand_dbg_name (l r : Speed) (s : State) : (applyCommand l r s).dbg_name = s.dbg_name := rfl
@[simp] theorem applyCommand_dbg_valid (l r : Speed) (s : State) : (applyCommand l r s).dbg_valid = s.dbg_valid := rfl
@[simp] theorem applyCommand_cmd_valid (l r : Speed) (s : State) : (applyCommand l r s).cmd_valid = true := rfl
@[simp] theorem applyCommand_params (l r : Speed) (s : State) : (applyCommand l r s).params = s.params := rfl
@[simp] theorem applyCommand_input (l r : Speed) (s : State) : (applyCommand l r s).input = s.input := rfl
@[simp] theorem applyCommand_cycle (l r : Speed) (s : State) : (applyCommand l r s).cycle = s.cycle := rfl

@[simp] theorem releaseStop_rx_meta (s : State) : (releaseStop s).rx_meta = s.rx_meta := rfl
@[simp] theorem releaseStop_rx_sync (s : State) : (releaseStop s).rx_sync = s.rx_sync := rfl
@[simp] theorem releaseStop_s_state (s : State) : (releaseStop s).s_state = s.s_state := rfl
@[simp] theorem releaseStop_prev (s : State) : (releaseStop s).prev = s.prev := rfl
@[simp] theorem releaseStop_tcnt (s : State) : (releaseStop s).tcnt = s.tcnt := rfl
@[simp] theorem releaseStop_bitn (s : State) : (releaseStop s).bitn = s.bitn := rfl
@[simp] theorem releaseStop_shreg (s : State) : (releaseStop s).shreg = s.shreg := rfl
@[simp] theorem releaseStop_mem (s : State) : (releaseStop s).mem = s.mem := rfl
@[simp] theorem releaseStop_wr (s : State) : (releaseStop s).wr = s.wr := rfl
@[simp] theorem releaseStop_rd (s : State) : (releaseStop s).rd = s.rd := rfl
@[simp] theorem releaseStop_count (s : State) : (releaseStop s).count = s.count := rfl
@[simp] theorem releaseStop_fifo_ovf (s : State) : (releaseStop s).fifo_ovf = s.fifo_ovf := rfl
@[simp] theorem releaseStop_await_first (s : State) : (releaseStop s).await_first = s.await_first := rfl
@[simp] theorem releaseStop_stored (s : State) : (releaseStop s).stored = s.stored := rfl
@[simp] theorem releaseStop_d_state (s : State) : (releaseStop s).d_state = .idle := rfl
@[simp] theorem releaseStop_last_act (s : State) : (releaseStop s).last_act = s.last_act := rfl
@[simp] theorem releaseStop_cmd_l (s : State) : (releaseStop s).cmd_l = 0 := rfl
@[simp] theorem releaseStop_cmd_r (s : State) : (releaseStop s).cmd_r = 0 := rfl
@[simp] theorem releaseStop_duty_lf (s : State) : (releaseStop s).duty_lf = s.duty_lf := rfl
@[simp] theorem releaseStop_duty_lr (s : State) : (releaseStop s).duty_lr = s.duty_lr := rfl
@[simp] theorem releaseStop_duty_rf (s : State) : (releaseStop s).duty_rf = s.duty_rf := rfl
@[simp] theorem releaseStop_duty_rr (s : State) : (releaseStop s).duty_rr = s.duty_rr := rfl
@[simp] theorem releaseStop_now (s : State) : (releaseStop s).now = s.now := rfl
@[simp] theorem releaseStop_pwm_cnt (s : State) : (releaseStop s).pwm_cnt = s.pwm_cnt := rfl
@[simp] theorem releaseStop_pre_s (s : State) : (releaseStop s).pre_s = s.pre_s := rfl
@[simp] theorem releaseStop_pre_ms (s : State) : (releaseStop s).pre_ms = s.pre_ms := rfl
@[simp] theorem releaseStop_pre_d (s : State) : (releaseStop s).pre_d = s.pre_d := rfl
@[simp] theorem releaseStop_pre_p (s : State) : (releaseStop s).pre_p = s.pre_p := rfl
@[simp] theorem releaseStop_dbg_code (s : State) : (releaseStop s).dbg_code = s.dbg_code := rfl
@[simp] theorem releaseStop_dbg_name (s : State) : (releaseStop s).dbg_name = s.dbg_name := rfl
@[simp] theorem releaseStop_dbg_valid (s : State) : (releaseStop s).dbg_valid = s.dbg_valid := rfl
@[simp] theorem releaseStop_cmd_valid (s : State) : (releaseStop s).cmd_valid = s.cmd_valid := rfl
@[simp] theorem releaseStop_params (s : State) : (releaseStop s).params = s.params := rfl
@[simp] theorem releaseStop_input (s : State) : (releaseStop s).input = s.input := rfl
@[simp] theorem releaseStop_cycle (s : State) : (releaseStop s).cycle = s.cycle := rfl

@[simp] theorem completeFrame_rx_meta (code : KeyCode) (s : State) : (completeFrame code s).rx_meta = s.rx_meta := rfl
@[simp] theorem completeFrame_rx_sync (code : KeyCode) (s : State) : (completeFrame code s).rx_sync = s.rx_sync := rfl
@[simp] theorem completeFrame_s_state (code : KeyCode) (s : State) : (completeFrame code s).s_state = s.s_state := rfl
@[simp] theorem completeFrame_prev (code : KeyCode) (s : State) : (completeFrame code s).prev = s.prev := rfl
@[simp] theorem completeFrame_tcnt (code : KeyCode) (s : State) : (completeFrame code s).tcnt = s.tcnt := rfl
@[simp] theorem completeFrame_bitn (code : KeyCode) (s : State) : (completeFrame code s).bitn = s.bitn := rfl
@[simp] theorem completeFrame_shreg (code : KeyCode) (s : State) : (completeFrame code s).shreg = s.shreg := rfl
@[simp] theorem completeFrame_mem (code : KeyCode) (s : State) : (completeFrame code s).mem = s.mem := rfl
@[simp] theorem completeFrame_wr (code : KeyCode) (s : State) : (completeFrame code s).wr = s.wr := rfl
@[simp] theorem completeFrame_rd (code : KeyCode) (s : State) : (completeFrame code s).rd = s.rd := rfl
@[simp] theorem completeFrame_count (code : KeyCode) (s : State) : (completeFrame code s).count = s.count := rfl
@[simp] theorem completeFrame_fifo_ovf (code : KeyCode) (s : State) : (completeFrame code s).fifo_ovf = s.fifo_ovf := rfl
@[simp] theorem completeFrame_await_first (code : KeyCode) (s : State) : (completeFrame code s).await_first = true := rfl
@[simp] theorem completeFrame_stored (code : KeyCode) (s : State) : (completeFrame code s).stored = s.stored := rfl
@[simp] theorem completeFrame_d_state (code : KeyCode) (s : State) : (completeFrame code s).d_state = s.d_state := rfl
@[simp] theorem completeFrame_last_act (code : KeyCode) (s : State) : (completeFrame code s).last_act = s.last_act := rfl
@[simp] theorem completeFrame_cmd_l (code : KeyCode) (s : State) : (completeFrame code s).cmd_l = s.cmd_l := rfl
@[simp] theorem completeFrame_cmd_r (code : KeyCode) (s : State) : (completeFrame code s).cmd_r = s.cmd_r := rfl
@[simp] theorem completeFrame_duty_lf (code : KeyCode) (s : State) : (completeFrame code s).duty_lf = s.duty_lf := rfl
@[simp] theorem completeFrame_duty_lr (code : KeyCode) (s : State) : (completeFrame code s).duty_lr = s.duty_lr := rfl
@[simp] theorem completeFrame_duty_rf (code : KeyCode) (s : State) : (completeFrame code s).duty_rf = s.duty_rf := rfl
@[simp] theorem completeFrame_duty_rr (code : KeyCode) (s : State) : (completeFrame code s).duty_rr = s.duty_rr := rfl
@[simp] theorem completeFrame_now (code : KeyCode) (s : State) : (completeFrame code s).now = s.now := rfl
@[simp] theorem completeFrame_pwm_cnt (code : KeyCode) (s : State) : (completeFrame code s).pwm_cnt = s.pwm_cnt := rfl
@[simp] theorem completeFrame_pre_s (code : KeyCode) (s : State) : (completeFrame code s).pre_s = s.pre_s := rfl
@[simp] theorem completeFrame_pre_ms (code : KeyCode) (s : State) : (completeFrame code s).pre_ms = s.pre_ms := rfl
@[simp] theorem completeFrame_pre_d (code : KeyCode) (s : State) : (completeFrame code s).pre_d = s.pre_d := rfl
@[simp] theorem completeFrame_pre_p (code : KeyCode) (s : State) : (completeFrame code s).pre_p = s.pre_p := rfl
@[simp] theorem completeFrame_dbg_code (code : KeyCode) (s : State) : (completeFrame code s).dbg_code = code := rfl
@[simp] theorem completeFrame_dbg_name (code : KeyCode) (s : State) : (completeFrame code s).dbg_name = (romName s.params code).code := rfl
@[simp] theorem completeFrame_dbg_valid (code : KeyCode) (s : State) : (completeFrame code s).dbg_valid = true := rfl
@[simp] theorem completeFrame_cmd_valid (code : KeyCode) (s : State) : (completeFrame code s).cmd_valid = s.cmd_valid := rfl
@[simp] theorem completeFrame_params (code : KeyCode) (s : State) : (completeFrame code s).params = s.params := rfl
@[simp] theorem completeFrame_input (code : KeyCode) (s : State) : (completeFrame code s).input = s.input := rfl
@[simp] theorem completeFrame_cycle (code : KeyCode) (s : State) : (completeFrame code s).cycle = s.cycle := rfl

@[simp] theorem clearStrobes_rx_meta (s : State) : (clearStrobes s).rx_meta = s.rx_meta := rfl
@[simp] theorem clearStrobes_rx_sync (s : State) : (clearStrobes s).rx_sync = s.rx_sync := rfl
@[simp] theorem clearStrobes_s_state (s : State) : (clearStrobes s).s_state = s.s_state := rfl
@[simp] theorem clearStrobes_prev (s : State) : (clearStrobes s).prev = s.prev := rfl
@[simp] theorem clearStrobes_tcnt (s : State) : (clearStrobes s).tcnt = s.tcnt := rfl
@[simp] theorem clearStrobes_bitn (s : State) : (clearStrobes s).bitn = s.bitn := rfl
@[simp] theorem clearStrobes_shreg (s : State) : (clearStrobes s).shreg = s.shreg := rfl
@[simp] theorem clearStrobes_mem (s : State) : (clearStrobes s).mem = s.mem := rfl
@[simp] theorem clearStrobes_wr (s : State) : (clearStrobes s).wr = s.wr := rfl
@[simp] theorem clearStrobes_rd (s : State) : (clearStrobes s).rd = s.rd := rfl
@[simp] theorem clearStrobes_count (s : State) : (clearStrobes s).count = s.count := rfl
@[simp] theorem clearStrobes_fifo_ovf (s : State) : (clearStrobes s).fifo_ovf = s.fifo_ovf := rfl
@[simp] theorem clearStrobes_await_first (s : State) : (clearStrobes s).await_first = s.await_first := rfl
@[simp] theorem clearStrobes_stored (s : State) : (clearStrobes s).stored = s.stored := rfl
@[simp] theorem clearStrobes_d_state (s : State) : (clearStrobes s).d_state = s.d_state := rfl
@[simp] theorem clearStrobes_last_act (s : State) : (clearStrobes s).last_act = s.last_act := rfl
@[simp] theorem clearStrobes_cmd_l (s : State) : (clearStrobes s).cmd_l = s.cmd_l := rfl
@[simp] theorem clearStrobes_cmd_r (s : State) : (clearStrobes s).cmd_r = s.cmd_r := rfl
@[simp] theorem clearStrobes_duty_lf (s : State) : (clearStrobes s).duty_lf = s.duty_lf := rfl
@[simp] theorem clearStrobes_duty_lr (s : State) : (clearStrobes s).duty_lr = s.duty_lr := rfl
@[simp] theorem clearStrobes_duty_rf (s : State) : (clearStrobes s).duty_rf = s.duty_rf := rfl
@[simp] theorem clearStrobes_duty_rr (s : State) : (clearStrobes s).duty_rr = s.duty_rr := rfl
@[simp] theorem clearStrobes_now (s : State) : (clearStrobes s).now = s.now := rfl
@[simp] theorem clearStrobes_pwm_cnt (s : State) : (clearStrobes s).pwm_cnt = s.pwm_cnt := rfl
@[simp] theorem clearStrobes_pre_s (s : State) : (clearStrobes s).pre_s = s.pre_s := rfl
@[simp] theorem clearStrobes_pre_ms (s : State) : (clearStrobes s).pre_ms = s.pre_ms := rfl
@[simp] theorem clearStrobes_pre_d (s : State) : (clearStrobes s).pre_d = s.pre_d := rfl
@[simp] theorem clearStrobes_pre_p (s : State) : (clearStrobes s).pre_p = s.pre_p := rfl
@[simp] theorem clearStrobes_dbg_code (s : State) : (clearStrobes s).dbg_code = s.dbg_code := rfl
@[simp] theorem clearStrobes_dbg_name (s : State) : (clearStrobes s).dbg_name = s.dbg_name := rfl
@[simp] theorem clearStrobes_dbg_valid (s : State) : (clearStrobes s).dbg_valid = false := rfl
@[simp] theorem clearStrobes_cmd_valid (s : State) : (clearStrobes s).cmd_valid = false := rfl
@[simp] theorem clearStrobes_params (s : State) : (clearStrobes s).params = s.params := rfl
@[simp] theorem clearStrobes_input (s : State) : (clearStrobes s).input = s.input := rfl
@[simp] theorem clearStrobes_cycle (s : State) : (clearStrobes s).cycle = s.cycle := rfl

@[simp] theorem advancePrescalers_rx_meta (s : State) : (advancePrescalers s).rx_meta = s.rx_meta := rfl
@[simp] theorem advancePrescalers_rx_sync (s : State) : (advancePrescalers s).rx_sync = s.rx_sync := rfl
@[simp] theorem advancePrescalers_s_state (s : State) : (advancePrescalers s).s_state = s.s_state := rfl
@[simp] theorem advancePrescalers_prev (s : State) : (advancePrescalers s).prev = s.prev := rfl
@[simp] theorem advancePrescalers_tcnt (s : State) : (advancePrescalers s).tcnt = s.tcnt := rfl
@[simp] theorem advancePrescalers_bitn (s : State) : (advancePrescalers s).bitn = s.bitn := rfl
@[simp] theorem advancePrescalers_shreg (s : State) : (advancePrescalers s).shreg = s.shreg := rfl
@[simp] theorem advancePrescalers_mem (s : State) : (advancePrescalers s).mem = s.mem := rfl
@[simp] theorem advancePrescalers_wr (s : State) : (advancePrescalers s).wr = s.wr := rfl
@[simp] theorem advancePrescalers_rd (s : State) : (advancePrescalers s).rd = s.rd := rfl
@[simp] theorem advancePrescalers_count (s : State) : (advancePrescalers s).count = s.count := rfl
@[simp] theorem advancePrescalers_fifo_ovf (s : State) : (advancePrescalers s).fifo_ovf = s.fifo_ovf := rfl
@[simp] theorem advancePrescalers_await_first (s : State) : (advancePrescalers s).await_first = s.await_first := rfl
@[simp] theorem advancePrescalers_stored (s : State) : (advancePrescalers s).stored = s.stored := rfl
@[simp] theorem advancePrescalers_d_state (s : State) : (advancePrescalers s).d_state = s.d_state := rfl
@[simp] theorem advancePrescalers_last_act (s : State) : (advancePrescalers s).last_act = s.last_act := rfl
@[simp] theorem advancePrescalers_cmd_l (s : State) : (advancePrescalers s).cmd_l = s.cmd_l := rfl
@[simp] theorem advancePrescalers_cmd_r (s : State) : (advancePrescalers s).cmd_r = s.cmd_r := rfl
@[simp] theorem advancePrescalers_duty_lf (s : State) : (advancePrescalers s).duty_lf = s.duty_lf := rfl
@[simp] theorem advancePrescalers_duty_lr (s : State) : (advancePrescalers s).duty_lr = s.duty_lr := rfl
@[simp] theorem advancePrescalers_duty_rf (s : State) : (advancePrescalers s).duty_rf = s.duty_rf := rfl
@[simp] theorem advancePrescalers_duty_rr (s : State) : (advancePrescalers s).duty_rr = s.duty_rr := rfl
@[simp] theorem advancePrescalers_now (s : State) : (advancePrescalers s).now = s.now := rfl
@[simp] theorem advancePrescalers_pwm_cnt (s : State) : (advancePrescalers s).pwm_cnt = s.pwm_cnt := rfl
@[simp] theorem advancePrescalers_pre_s (s : State) : (advancePrescalers s).pre_s = nextPrescaler s.pre_s s.params.sampleDiv := rfl
@[simp] theorem advancePrescalers_pre_ms (s : State) : (advancePrescalers s).pre_ms = nextPrescaler s.pre_ms s.params.msDiv := rfl
@[simp] theorem advancePrescalers_pre_d (s : State) : (advancePrescalers s).pre_d = nextPrescaler s.pre_d s.params.dispDiv := rfl
@[simp] theorem advancePrescalers_pre_p (s : State) : (advancePrescalers s).pre_p = nextPrescaler s.pre_p s.params.pwmDiv := rfl
@[simp] theorem advancePrescalers_dbg_code (s : State) : (advancePrescalers s).dbg_code = s.dbg_code := rfl
@[simp] theorem advancePrescalers_dbg_name (s : State) : (advancePrescalers s).dbg_name = s.dbg_name := rfl
@[simp] theorem advancePrescalers_dbg_valid (s : State) : (advancePrescalers s).dbg_valid = s.dbg_valid := rfl
@[simp] theorem advancePrescalers_cmd_valid (s : State) : (advancePrescalers s).cmd_valid = s.cmd_valid := rfl
@[simp] theorem advancePrescalers_params (s : State) : (advancePrescalers s).params = s.params := rfl
@[simp] theorem advancePrescalers_input (s : State) : (advancePrescalers s).input = s.input := rfl
@[simp] theorem advancePrescalers_cycle (s : State) : (advancePrescalers s).cycle = s.cycle := rfl

@[simp] theorem consumeInput_rx_meta (s : State) : (consumeInput s).rx_meta = s.rx_meta := rfl
@[simp] theorem consumeInput_rx_sync (s : State) : (consumeInput s).rx_sync = s.rx_sync := rfl
@[simp] theorem consumeInput_s_state (s : State) : (consumeInput s).s_state = s.s_state := rfl
@[simp] theorem consumeInput_prev (s : State) : (consumeInput s).prev = s.prev := rfl
@[simp] theorem consumeInput_tcnt (s : State) : (consumeInput s).tcnt = s.tcnt := rfl
@[simp] theorem consumeInput_bitn (s : State) : (consumeInput s).bitn = s.bitn := rfl
@[simp] theorem consumeInput_shreg (s : State) : (consumeInput s).shreg = s.shreg := rfl
@[simp] theorem consumeInput_mem (s : State) : (consumeInput s).mem = s.mem := rfl
@[simp] theorem consumeInput_wr (s : State) : (consumeInput s).wr = s.wr := rfl
@[simp] theorem consumeInput_rd (s : State) : (consumeInput s).rd = s.rd := rfl
@[simp] theorem consumeInput_count (s : State) : (consumeInput s).count = s.count := rfl
@[simp] theorem consumeInput_fifo_ovf (s : State) : (consumeInput s).fifo_ovf = s.fifo_ovf := rfl
@[simp] theorem consumeInput_await_first (s : State) : (consumeInput s).await_first = s.await_first := rfl
@[simp] theorem consumeInput_stored (s : State) : (consumeInput s).stored = s.stored := rfl
@[simp] theorem consumeInput_d_state (s : State) : (consumeInput s).d_state = s.d_state := rfl
@[simp] theorem consumeInput_last_act (s : State) : (consumeInput s).last_act = s.last_act := rfl
@[simp] theorem consumeInput_cmd_l (s : State) : (consumeInput s).cmd_l = s.cmd_l := rfl
@[simp] theorem consumeInput_cmd_r (s : State) : (consumeInput s).cmd_r = s.cmd_r := rfl
@[simp] theorem consumeInput_duty_lf (s : State) : (consumeInput s).duty_lf = s.duty_lf := rfl
@[simp] theorem consumeInput_duty_lr (s : State) : (consumeInput s).duty_lr = s.duty_lr := rfl
@[simp] theorem consumeInput_duty_rf (s : State) : (consumeInput s).duty_rf = s.duty_rf := rfl
@[simp] theorem consumeInput_duty_rr (s : State) : (consumeInput s).duty_rr = s.duty_rr := rfl
@[simp] theorem consumeInput_now (s : State) : (consumeInput s).now = s.now := rfl
@[simp] theorem consumeInput_pwm_cnt (s : State) : (consumeInput s).pwm_cnt = s.pwm_cnt := rfl
@[simp] theorem consumeInput_pre_s (s : State) : (consumeInput s).pre_s = s.pre_s := rfl
@[simp] theorem consumeInput_pre_ms (s : State) : (consumeInput s).pre_ms = s.pre_ms := rfl
@[simp] theorem consumeInput_pre_d (s : State) : (consumeInput s).pre_d = s.pre_d := rfl
@[simp] theorem consumeInput_pre_p (s : State) : (consumeInput s).pre_p = s.pre_p := rfl
@[simp] theorem consumeInput_dbg_code (s : State) : (consumeInput s).dbg_code = s.dbg_code := rfl
@[simp] theorem consumeInput_dbg_name (s : State) : (consumeInput s).dbg_name = s.dbg_name := rfl
@[simp] theorem consumeInput_dbg_valid (s : State) : (consumeInput s).dbg_valid = s.dbg_valid := rfl
@[simp] theorem consumeInput_cmd_valid (s : State) : (consumeInput s).cmd_valid = s.cmd_valid := rfl
@[simp] theorem consumeInput_params (s : State) : (consumeInput s).params = s.params := rfl
@[simp] theorem consumeInput_input (s : State) : (consumeInput s).input = s.input.tail := rfl
@[simp] theorem consumeInput_cycle (s : State) : (consumeInput s).cycle = s.cycle + 1 := rfl

@[simp] theorem keepFirst_rx_meta (b : Byte) (s : State) : (keepFirst b s).rx_meta = s.rx_meta := rfl
@[simp] theorem keepFirst_rx_sync (b : Byte) (s : State) : (keepFirst b s).rx_sync = s.rx_sync := rfl
@[simp] theorem keepFirst_s_state (b : Byte) (s : State) : (keepFirst b s).s_state = s.s_state := rfl
@[simp] theorem keepFirst_prev (b : Byte) (s : State) : (keepFirst b s).prev = s.prev := rfl
@[simp] theorem keepFirst_tcnt (b : Byte) (s : State) : (keepFirst b s).tcnt = s.tcnt := rfl
@[simp] theorem keepFirst_bitn (b : Byte) (s : State) : (keepFirst b s).bitn = s.bitn := rfl
@[simp] theorem keepFirst_shreg (b : Byte) (s : State) : (keepFirst b s).shreg = s.shreg := rfl
@[simp] theorem keepFirst_mem (b : Byte) (s : State) : (keepFirst b s).mem = s.mem := rfl
@[simp] theorem keepFirst_wr (b : Byte) (s : State) : (keepFirst b s).wr = s.wr := rfl
@[simp] theorem keepFirst_rd (b : Byte) (s : State) : (keepFirst b s).rd = s.rd := rfl
@[simp] theorem keepFirst_count (b : Byte) (s : State) : (keepFirst b s).count = s.count := rfl
@[simp] theorem keepFirst_fifo_ovf (b : Byte) (s : State) : (keepFirst b s).fifo_ovf = s.fifo_ovf := rfl
@[simp] theorem keepFirst_await_first (b : Byte) (s : State) : (keepFirst b s).await_first = false := rfl
@[simp] theorem keepFirst_stored (b : Byte) (s : State) : (keepFirst b s).stored = b := rfl
@[simp] theorem keepFirst_d_state (b : Byte) (s : State) : (keepFirst b s).d_state = s.d_state := rfl
@[simp] theorem keepFirst_last_act (b : Byte) (s : State) : (keepFirst b s).last_act = s.last_act := rfl
@[simp] theorem keepFirst_cmd_l (b : Byte) (s : State) : (keepFirst b s).cmd_l = s.cmd_l := rfl
@[simp] theorem keepFirst_cmd_r (b : Byte) (s : State) : (keepFirst b s).cmd_r = s.cmd_r := rfl
@[simp] theorem keepFirst_duty_lf (b : Byte) (s : State) : (keepFirst b s).duty_lf = s.duty_lf := rfl
@[simp] theorem keepFirst_duty_lr (b : Byte) (s : State) : (keepFirst b s).duty_lr = s.duty_lr := rfl
@[simp] theorem keepFirst_duty_rf (b : Byte) (s : State) : (keepFirst b s).duty_rf = s.duty_rf := rfl
@[simp] theorem keepFirst_duty_rr (b : Byte) (s : State) : (keepFirst b s).duty_rr = s.duty_rr := rfl
@[simp] theorem keepFirst_now (b : Byte) (s : State) : (keepFirst b s).now = s.now := rfl
@[simp] theorem keepFirst_pwm_cnt (b : Byte) (s : State) : (keepFirst b s).pwm_cnt = s.pwm_cnt := rfl
@[simp] theorem keepFirst_pre_s (b : Byte) (s : State) : (keepFirst b s).pre_s = s.pre_s := rfl
@[simp] theorem keepFirst_pre_ms (b : Byte) (s : State) : (keepFirst b s).pre_ms = s.pre_ms := rfl
@[simp] theorem keepFirst_pre_d (b : Byte) (s : State) : (keepFirst b s).pre_d = s.pre_d := rfl
@[simp] theorem keepFirst_pre_p (b : Byte) (s : State) : (keepFirst b s).pre_p = s.pre_p := rfl
@[simp] theorem keepFirst_dbg_code (b : Byte) (s : State) : (keepFirst b s).dbg_code = s.dbg_code := rfl
@[simp] theorem keepFirst_dbg_name (b : Byte) (s : State) : (keepFirst b s).dbg_name = s.dbg_name := rfl
@[simp] theorem keepFirst_dbg_valid (b : Byte) (s : State) : (keepFirst b s).dbg_valid = s.dbg_valid := rfl
@[simp] theorem keepFirst_cmd_valid (b : Byte) (s : State) : (keepFirst b s).cmd_valid = s.cmd_valid := rfl
@[simp] theorem keepFirst_params (b : Byte) (s : State) : (keepFirst b s).params = s.params := rfl
@[simp] theorem keepFirst_input (b : Byte) (s : State) : (keepFirst b s).input = s.input := rfl
@[simp] theorem keepFirst_cycle (b : Byte) (s : State) : (keepFirst b s).cycle = s.cycle := rfl

@[simp] theorem synced_rx_meta (rxPin : Bool) (s : State) : (synced rxPin s).rx_meta = rxPin := rfl
@[simp] theorem synced_rx_sync (rxPin : Bool) (s : State) : (synced rxPin s).rx_sync = s.rx_meta := rfl
@[simp] theorem synced_s_state (rxPin : Bool) (s : State) : (synced rxPin s).s_state = s.s_state := rfl
@[simp] theorem synced_prev (rxPin : Bool) (s : State) : (synced rxPin s).prev = s.prev := rfl
@[simp] theorem synced_tcnt (rxPin : Bool) (s : State) : (synced rxPin s).tcnt = s.tcnt := rfl
@[simp] theorem synced_bitn (rxPin : Bool) (s : State) : (synced rxPin s).bitn = s.bitn := rfl
@[simp] theorem synced_shreg (rxPin : Bool) (s : State) : (synced rxPin s).shreg = s.shreg := rfl
@[simp] theorem synced_mem (rxPin : Bool) (s : State) : (synced rxPin s).mem = s.mem := rfl
@[simp] theorem synced_wr (rxPin : Bool) (s : State) : (synced rxPin s).wr = s.wr := rfl
@[simp] theorem synced_rd (rxPin : Bool) (s : State) : (synced rxPin s).rd = s.rd := rfl
@[simp] theorem synced_count (rxPin : Bool) (s : State) : (synced rxPin s).count = s.count := rfl
@[simp] theorem synced_fifo_ovf (rxPin : Bool) (s : State) : (synced rxPin s).fifo_ovf = s.fifo_ovf := rfl
@[simp] theorem synced_await_first (rxPin : Bool) (s : State) : (synced rxPin s).await_first = s.await_first := rfl
@[simp] theorem synced_stored (rxPin : Bool) (s : State) : (synced rxPin s).stored = s.stored := rfl
@[simp] theorem synced_d_state (rxPin : Bool) (s : State) : (synced rxPin s).d_state = s.d_state := rfl
@[simp] theorem synced_last_act (rxPin : Bool) (s : State) : (synced rxPin s).last_act = s.last_act := rfl
@[simp] theorem synced_cmd_l (rxPin : Bool) (s : State) : (synced rxPin s).cmd_l = s.cmd_l := rfl
@[simp] theorem synced_cmd_r (rxPin : Bool) (s : State) : (synced rxPin s).cmd_r = s.cmd_r := rfl
@[simp] theorem synced_duty_lf (rxPin : Bool) (s : State) : (synced rxPin s).duty_lf = s.duty_lf := rfl
@[simp] theorem synced_duty_lr (rxPin : Bool) (s : State) : (synced rxPin s).duty_lr = s.duty_lr := rfl
@[simp] theorem synced_duty_rf (rxPin : Bool) (s : State) : (synced rxPin s).duty_rf = s.duty_rf := rfl
@[simp] theorem synced_duty_rr (rxPin : Bool) (s : State) : (synced rxPin s).duty_rr = s.duty_rr := rfl
@[simp] theorem synced_now (rxPin : Bool) (s : State) : (synced rxPin s).now = s.now := rfl
@[simp] theorem synced_pwm_cnt (rxPin : Bool) (s : State) : (synced rxPin s).pwm_cnt = s.pwm_cnt := rfl
@[simp] theorem synced_pre_s (rxPin : Bool) (s : State) : (synced rxPin s).pre_s = s.pre_s := rfl
@[simp] theorem synced_pre_ms (rxPin : Bool) (s : State) : (synced rxPin s).pre_ms = s.pre_ms := rfl
@[simp] theorem synced_pre_d (rxPin : Bool) (s : State) : (synced rxPin s).pre_d = s.pre_d := rfl
@[simp] theorem synced_pre_p (rxPin : Bool) (s : State) : (synced rxPin s).pre_p = s.pre_p := rfl
@[simp] theorem synced_dbg_code (rxPin : Bool) (s : State) : (synced rxPin s).dbg_code = s.dbg_code := rfl
@[simp] theorem synced_dbg_name (rxPin : Bool) (s : State) : (synced rxPin s).dbg_name = s.dbg_name := rfl
@[simp] theorem synced_dbg_valid (rxPin : Bool) (s : State) : (synced rxPin s).dbg_valid = s.dbg_valid := rfl
@[simp] theorem synced_cmd_valid (rxPin : Bool) (s : State) : (synced rxPin s).cmd_valid = s.cmd_valid := rfl
@[simp] theorem synced_params (rxPin : Bool) (s : State) : (synced rxPin s).params = s.params := rfl
@[simp] theorem synced_input (rxPin : Bool) (s : State) : (synced rxPin s).input = s.input := rfl
@[simp] theorem synced_cycle (rxPin : Bool) (s : State) : (synced rxPin s).cycle = s.cycle := rfl

@[simp] theorem forward_eq (s : State) : forward s = applyCommand s.cmd_l s.cmd_r s := rfl
@[simp] theorem pressAndForward_eq (n : ButtonName) (s : State) : pressAndForward n s = forward (recordPress n s) := rfl
@[simp] theorem forcedStop_eq (s : State) : forcedStop s = forward (releaseStop s) := rfl

@[simp] theorem recordPress_d_state (n : ButtonName) (s : State) : (recordPress n s).d_state = .pressed := by
  unfold recordPress; split <;> rfl
@[simp] theorem recordPress_last_act (n : ButtonName) (s : State) : (recordPress n s).last_act = s.now := by
  unfold recordPress; split <;> rfl
@[simp] theorem recordPress_rx_meta (n : ButtonName) (s : State) : (recordPress n s).rx_meta = s.rx_meta := by
  unfold recordPress; split <;> rfl
@[simp] theorem recordPress_rx_sync (n : ButtonName) (s : State) : (recordPress n s).rx_sync = s.rx_sync := by
  unfold recordPress; split <;> rfl
@[simp] theorem recordPress_s_state (n : ButtonName) (s : State) : (recordPress n s).s_state = s.s_state := by
  unfold recordPress; split <;> rfl
@[simp] theorem recordPress_prev (n : ButtonName) (s : State) : (recordPress n s).prev = s.prev := by
  unfold recordPress; split <;> rfl
@[simp] theorem recordPress_tcnt (n : ButtonName) (s : State) : (recordPress n s).tcnt = s.tcnt := by
  unfold recordPress; split <;> rfl
@[simp] theorem recordPress_bitn (n : ButtonName) (s : State) : (recordPress n s).bitn = s.bitn := by
  unfold recordPress; split <;> rfl
@[simp] theorem recordPress_shreg (n : ButtonName) (s : State) : (recordPress n s).shreg = s.shreg := by
  unfold recordPress; split <;> rfl
@[simp] theorem recordPress_mem (n : ButtonName) (s : State) : (recordPress n s).mem = s.mem := by
  unfold recordPress; split <;> rfl
@[simp] theorem recordPress_wr (n : ButtonName) (s : State) : (recordPress n s).wr = s.wr := by
  unfold recordPress; split <;> rfl
@[simp] theorem recordPress_rd (n : ButtonName) (s : State) : (recordPress n s).rd = s.rd := by
  unfold recordPress; split <;> rfl
@[simp] theorem recordPress_count (n : ButtonName) (s : State) : (recordPress n s).count = s.count := by
  unfold recordPress; split <;> rfl
@[simp] theorem recordPress_fifo_ovf (n : ButtonName) (s : State) : (recordPress n s).fifo_ovf = s.fifo_ovf := by
  unfold recordPress; split <;> rfl
@[simp] theorem recordPress_await_first (n : ButtonName) (s : State) : (recordPress n s).await_first = s.await_first := by
  unfold recordPress; split <;> rfl
@[simp] theorem recordPress_stored (n : ButtonName) (s : State) : (recordPress n s).stored = s.stored := by
  unfold recordPress; split <;> rfl
@[simp] theorem recordPress_duty_lf (n : ButtonName) (s : State) : (recordPress n s).duty_lf = s.duty_lf := by
  unfold recordPress; split <;> rfl
@[simp] theorem recordPress_duty_lr (n : ButtonName) (s : State) : (recordPress n s).duty_lr = s.duty_lr := by
  unfold recordPress; split <;> rfl
@[simp] theorem recordPress_duty_rf (n : ButtonName) (s : State) : (recordPress n s).duty_rf = s.duty_rf := by
  unfold recordPress; split <;> rfl
@[simp] theorem recordPress_duty_rr (n : ButtonName) (s : State) : (recordPress n s).duty_rr = s.duty_rr := by
  unfold recordPress; split <;> rfl
@[simp] theorem recordPress_now (n : ButtonName) (s : State) : (recordPress n s).now = s.now := by
  unfold recordPress; split <;> rfl
@[simp] theorem recordPress_pwm_cnt (n : ButtonName) (s : State) : (recordPress n s).pwm_cnt = s.pwm_cnt := by
  unfold recordPress; split <;> rfl
@[simp] theorem recordPress_pre_s (n : ButtonName) (s : State) : (recordPress n s).pre_s = s.pre_s := by
  unfold recordPress; split <;> rfl
@[simp] theorem recordPress_pre_ms (n : ButtonName) (s : State) : (recordPress n s).pre_ms = s.pre_ms := by
  unfold recordPress; split <;> rfl
@[simp] theorem recordPress_pre_d (n : ButtonName) (s : State) : (recordPress n s).pre_d = s.pre_d := by
  unfold recordPress; split <;> rfl
@[simp] theorem recordPress_pre_p (n : ButtonName) (s : State) : (recordPress n s).pre_p = s.pre_p := by
  unfold recordPress; split <;> rfl
@[simp] theorem recordPress_dbg_code (n : ButtonName) (s : State) : (recordPress n s).dbg_code = s.dbg_code := by
  unfold recordPress; split <;> rfl
@[simp] theorem recordPress_dbg_name (n : ButtonName) (s : State) : (recordPress n s).dbg_name = s.dbg_name := by
  unfold recordPress; split <;> rfl
@[simp] theorem recordPress_dbg_valid (n : ButtonName) (s : State) : (recordPress n s).dbg_valid = s.dbg_valid := by
  unfold recordPress; split <;> rfl
@[simp] theorem recordPress_cmd_valid (n : ButtonName) (s : State) : (recordPress n s).cmd_valid = s.cmd_valid := by
  unfold recordPress; split <;> rfl
@[simp] theorem recordPress_params (n : ButtonName) (s : State) : (recordPress n s).params = s.params := by
  unfold recordPress; split <;> rfl
@[simp] theorem recordPress_input (n : ButtonName) (s : State) : (recordPress n s).input = s.input := by
  unfold recordPress; split <;> rfl
@[simp] theorem recordPress_cycle (n : ButtonName) (s : State) : (recordPress n s).cycle = s.cycle := by
  unfold recordPress; split <;> rfl

/-- The command after a press: the direction ROM's, or unchanged (43_dispatcher R152). -/
theorem recordPress_cmd_l (n : ButtonName) (s : State) :
    (recordPress n s).cmd_l = ((dirRom s.params n).map fun d => toSpeed d.1).getD s.cmd_l := by
  unfold recordPress; split <;> simp_all

/-- The command after a press: the direction ROM's, or unchanged (43_dispatcher R152). -/
theorem recordPress_cmd_r (n : ButtonName) (s : State) :
    (recordPress n s).cmd_r = ((dirRom s.params n).map fun d => toSpeed d.2).getD s.cmd_r := by
  unfold recordPress; split <;> simp_all

@[simp] theorem setWheel_left_rx_meta (d : Duty × Duty) (s : State) : (setWheel .left d s).rx_meta = s.rx_meta := rfl
@[simp] theorem setWheel_left_rx_sync (d : Duty × Duty) (s : State) : (setWheel .left d s).rx_sync = s.rx_sync := rfl
@[simp] theorem setWheel_left_s_state (d : Duty × Duty) (s : State) : (setWheel .left d s).s_state = s.s_state := rfl
@[simp] theorem setWheel_left_prev (d : Duty × Duty) (s : State) : (setWheel .left d s).prev = s.prev := rfl
@[simp] theorem setWheel_left_tcnt (d : Duty × Duty) (s : State) : (setWheel .left d s).tcnt = s.tcnt := rfl
@[simp] theorem setWheel_left_bitn (d : Duty × Duty) (s : State) : (setWheel .left d s).bitn = s.bitn := rfl
@[simp] theorem setWheel_left_shreg (d : Duty × Duty) (s : State) : (setWheel .left d s).shreg = s.shreg := rfl
@[simp] theorem setWheel_left_mem (d : Duty × Duty) (s : State) : (setWheel .left d s).mem = s.mem := rfl
@[simp] theorem setWheel_left_wr (d : Duty × Duty) (s : State) : (setWheel .left d s).wr = s.wr := rfl
@[simp] theorem setWheel_left_rd (d : Duty × Duty) (s : State) : (setWheel .left d s).rd = s.rd := rfl
@[simp] theorem setWheel_left_count (d : Duty × Duty) (s : State) : (setWheel .left d s).count = s.count := rfl
@[simp] theorem setWheel_left_fifo_ovf (d : Duty × Duty) (s : State) : (setWheel .left d s).fifo_ovf = s.fifo_ovf := rfl
@[simp] theorem setWheel_left_await_first (d : Duty × Duty) (s : State) : (setWheel .left d s).await_first = s.await_first := rfl
@[simp] theorem setWheel_left_stored (d : Duty × Duty) (s : State) : (setWheel .left d s).stored = s.stored := rfl
@[simp] theorem setWheel_left_d_state (d : Duty × Duty) (s : State) : (setWheel .left d s).d_state = s.d_state := rfl
@[simp] theorem setWheel_left_last_act (d : Duty × Duty) (s : State) : (setWheel .left d s).last_act = s.last_act := rfl
@[simp] theorem setWheel_left_cmd_l (d : Duty × Duty) (s : State) : (setWheel .left d s).cmd_l = s.cmd_l := rfl
@[simp] theorem setWheel_left_cmd_r (d : Duty × Duty) (s : State) : (setWheel .left d s).cmd_r = s.cmd_r := rfl
@[simp] theorem setWheel_left_duty_lf (d : Duty × Duty) (s : State) : (setWheel .left d s).duty_lf = d.1 := rfl
@[simp] theorem setWheel_left_duty_lr (d : Duty × Duty) (s : State) : (setWheel .left d s).duty_lr = d.2 := rfl
@[simp] theorem setWheel_left_duty_rf (d : Duty × Duty) (s : State) : (setWheel .left d s).duty_rf = s.duty_rf := rfl
@[simp] theorem setWheel_left_duty_rr (d : Duty × Duty) (s : State) : (setWheel .left d s).duty_rr = s.duty_rr := rfl
@[simp] theorem setWheel_left_now (d : Duty × Duty) (s : State) : (setWheel .left d s).now = s.now := rfl
@[simp] theorem setWheel_left_pwm_cnt (d : Duty × Duty) (s : State) : (setWheel .left d s).pwm_cnt = s.pwm_cnt := rfl
@[simp] theorem setWheel_left_pre_s (d : Duty × Duty) (s : State) : (setWheel .left d s).pre_s = s.pre_s := rfl
@[simp] theorem setWheel_left_pre_ms (d : Duty × Duty) (s : State) : (setWheel .left d s).pre_ms = s.pre_ms := rfl
@[simp] theorem setWheel_left_pre_d (d : Duty × Duty) (s : State) : (setWheel .left d s).pre_d = s.pre_d := rfl
@[simp] theorem setWheel_left_pre_p (d : Duty × Duty) (s : State) : (setWheel .left d s).pre_p = s.pre_p := rfl
@[simp] theorem setWheel_left_dbg_code (d : Duty × Duty) (s : State) : (setWheel .left d s).dbg_code = s.dbg_code := rfl
@[simp] theorem setWheel_left_dbg_name (d : Duty × Duty) (s : State) : (setWheel .left d s).dbg_name = s.dbg_name := rfl
@[simp] theorem setWheel_left_dbg_valid (d : Duty × Duty) (s : State) : (setWheel .left d s).dbg_valid = s.dbg_valid := rfl
@[simp] theorem setWheel_left_cmd_valid (d : Duty × Duty) (s : State) : (setWheel .left d s).cmd_valid = s.cmd_valid := rfl
@[simp] theorem setWheel_left_params (d : Duty × Duty) (s : State) : (setWheel .left d s).params = s.params := rfl
@[simp] theorem setWheel_left_input (d : Duty × Duty) (s : State) : (setWheel .left d s).input = s.input := rfl
@[simp] theorem setWheel_left_cycle (d : Duty × Duty) (s : State) : (setWheel .left d s).cycle = s.cycle := rfl
@[simp] theorem setWheel_right_rx_meta (d : Duty × Duty) (s : State) : (setWheel .right d s).rx_meta = s.rx_meta := rfl
@[simp] theorem setWheel_right_rx_sync (d : Duty × Duty) (s : State) : (setWheel .right d s).rx_sync = s.rx_sync := rfl
@[simp] theorem setWheel_right_s_state (d : Duty × Duty) (s : State) : (setWheel .right d s).s_state = s.s_state := rfl
@[simp] theorem setWheel_right_prev (d : Duty × Duty) (s : State) : (setWheel .right d s).prev = s.prev := rfl
@[simp] theorem setWheel_right_tcnt (d : Duty × Duty) (s : State) : (setWheel .right d s).tcnt = s.tcnt := rfl
@[simp] theorem setWheel_right_bitn (d : Duty × Duty) (s : State) : (setWheel .right d s).bitn = s.bitn := rfl
@[simp] theorem setWheel_right_shreg (d : Duty × Duty) (s : State) : (setWheel .right d s).shreg = s.shreg := rfl
@[simp] theorem setWheel_right_mem (d : Duty × Duty) (s : State) : (setWheel .right d s).mem = s.mem := rfl
@[simp] theorem setWheel_right_wr (d : Duty × Duty) (s : State) : (setWheel .right d s).wr = s.wr := rfl
@[simp] theorem setWheel_right_rd (d : Duty × Duty) (s : State) : (setWheel .right d s).rd = s.rd := rfl
@[simp] theorem setWheel_right_count (d : Duty × Duty) (s : State) : (setWheel .right d s).count = s.count := rfl
@[simp] theorem setWheel_right_fifo_ovf (d : Duty × Duty) (s : State) : (setWheel .right d s).fifo_ovf = s.fifo_ovf := rfl
@[simp] theorem setWheel_right_await_first (d : Duty × Duty) (s : State) : (setWheel .right d s).await_first = s.await_first := rfl
@[simp] theorem setWheel_right_stored (d : Duty × Duty) (s : State) : (setWheel .right d s).stored = s.stored := rfl
@[simp] theorem setWheel_right_d_state (d : Duty × Duty) (s : State) : (setWheel .right d s).d_state = s.d_state := rfl
@[simp] theorem setWheel_right_last_act (d : Duty × Duty) (s : State) : (setWheel .right d s).last_act = s.last_act := rfl
@[simp] theorem setWheel_right_cmd_l (d : Duty × Duty) (s : State) : (setWheel .right d s).cmd_l = s.cmd_l := rfl
@[simp] theorem setWheel_right_cmd_r (d : Duty × Duty) (s : State) : (setWheel .right d s).cmd_r = s.cmd_r := rfl
@[simp] theorem setWheel_right_duty_lf (d : Duty × Duty) (s : State) : (setWheel .right d s).duty_lf = s.duty_lf := rfl
@[simp] theorem setWheel_right_duty_lr (d : Duty × Duty) (s : State) : (setWheel .right d s).duty_lr = s.duty_lr := rfl
@[simp] theorem setWheel_right_duty_rf (d : Duty × Duty) (s : State) : (setWheel .right d s).duty_rf = d.1 := rfl
@[simp] theorem setWheel_right_duty_rr (d : Duty × Duty) (s : State) : (setWheel .right d s).duty_rr = d.2 := rfl
@[simp] theorem setWheel_right_now (d : Duty × Duty) (s : State) : (setWheel .right d s).now = s.now := rfl
@[simp] theorem setWheel_right_pwm_cnt (d : Duty × Duty) (s : State) : (setWheel .right d s).pwm_cnt = s.pwm_cnt := rfl
@[simp] theorem setWheel_right_pre_s (d : Duty × Duty) (s : State) : (setWheel .right d s).pre_s = s.pre_s := rfl
@[simp] theorem setWheel_right_pre_ms (d : Duty × Duty) (s : State) : (setWheel .right d s).pre_ms = s.pre_ms := rfl
@[simp] theorem setWheel_right_pre_d (d : Duty × Duty) (s : State) : (setWheel .right d s).pre_d = s.pre_d := rfl
@[simp] theorem setWheel_right_pre_p (d : Duty × Duty) (s : State) : (setWheel .right d s).pre_p = s.pre_p := rfl
@[simp] theorem setWheel_right_dbg_code (d : Duty × Duty) (s : State) : (setWheel .right d s).dbg_code = s.dbg_code := rfl
@[simp] theorem setWheel_right_dbg_name (d : Duty × Duty) (s : State) : (setWheel .right d s).dbg_name = s.dbg_name := rfl
@[simp] theorem setWheel_right_dbg_valid (d : Duty × Duty) (s : State) : (setWheel .right d s).dbg_valid = s.dbg_valid := rfl
@[simp] theorem setWheel_right_cmd_valid (d : Duty × Duty) (s : State) : (setWheel .right d s).cmd_valid = s.cmd_valid := rfl
@[simp] theorem setWheel_right_params (d : Duty × Duty) (s : State) : (setWheel .right d s).params = s.params := rfl
@[simp] theorem setWheel_right_input (d : Duty × Duty) (s : State) : (setWheel .right d s).input = s.input := rfl
@[simp] theorem setWheel_right_cycle (d : Duty × Duty) (s : State) : (setWheel .right d s).cycle = s.cycle := rfl

end Sys2Proof.Machine
end

