-- ==== Sys2Proof/Laws/Sequence.lean ====
section
/-! SUPPORT. Once for each shared operation: everything it can answer. -/

namespace Sys2Proof.Machine

@[simp] theorem andThen_next (s : State) (f : State → Result) : andThen (.next s) f = f s := rfl
@[simp] theorem andThen_fault (e : Fault) (f : State → Result) : andThen (.fault e) f = .fault e := rfl
@[simp] theorem andThen_refused (e : Refusal) (f : State → Result) : andThen (.refused e) f = .refused e := rfl

/-- A sequence completes when both parts do. -/
theorem andThen_eq_next {r : Result} {f : State → Result} {t : State} :
    andThen r f = .next t ↔ ∃ m, r = .next m ∧ f m = .next t := by
  cases r <;> simp

theorem andThen_assoc (r : Result) (f g : State → Result) :
    andThen (andThen r f) g = andThen r fun s => andThen (f s) g := by
  cases r <;> rfl

@[simp] theorem whenSelected_true (s : State) (f : State → Result) : whenSelected true s f = f s := rfl
@[simp] theorem whenSelected_false (s : State) (f : State → Result) :
    whenSelected false s f = .refused .notSelected := rfl

/-- An operation that completes was selected. -/
theorem whenSelected_eq_next {b : Bool} {s t : State} {f : State → Result} :
    whenSelected b s f = .next t ↔ b = true ∧ f s = .next t := by
  cases b <;> simp

@[simp] theorem onTick_true (f : State → Result) (s : State) : onTick true f s = f s := rfl
@[simp] theorem onTick_false (f : State → Result) (s : State) : onTick false f s = .next s := rfl

/-- An agent's turn ends in its step's state, or in the state it began with. -/
theorem onTick_eq_next {b : Bool} {s t : State} {f : State → Result} :
    onTick b f s = .next t ↔ (b = true ∧ f s = .next t) ∨ (b = false ∧ s = t) := by
  cases b <;> simp

/-- F.PUSH completes where the write index exists, and writes the byte, the index and the count (41_fifo R121). -/
theorem pushByte_eq_next {b : Byte} {s t : State} :
    pushByte b s = .next t ↔
      s.wr < s.params.fifoDepth ∧
        t = { s with mem := Memory.write s.mem s.wr b, wr := nextIndex s s.wr, count := s.count + 1 } := by
  unfold pushByte
  split <;> simp_all [eq_comm]

/-- `FifoPush` drops the byte where the FIFO is full, and pushes it elsewhere (41_fifo R121, R122). -/
theorem fifoPush_eq_next {b : Byte} {s t : State} :
    fifoPush b s = .next t ↔
      (full s = true ∧ t = dropByte s) ∨ (full s = false ∧ pushByte b s = .next t) := by
  unfold fifoPush
  cases full s <;> simp [eq_comm]

/-- `FifoPop` hands the oldest byte and the state after the pop on, where the read index exists (41_fifo R123). -/
theorem fifoPop_eq_next {s t : State} {use : Byte → State → Result} :
    fifoPop s use = .next t ↔
      s.rd < s.params.fifoDepth ∧ use (Memory.read s.mem s.rd) (popped s) = .next t := by
  unfold fifoPop
  split <;> simp_all

/-- A clock edge is a reset edge or a `ClkStep`, and uses up one scripted level (70_reset R260). -/
theorem clockEdge_eq_next {s t : State} :
    clockEdge s = .next t ↔
      ((pinsNow s).rst = true ∧ t = consumeInput (resetEdge s)) ∨
      ((pinsNow s).rst = false ∧ ∃ u, clkStep (pinsNow s).rx_pin s = .next u ∧ t = consumeInput u) := by
  unfold clockEdge
  cases (pinsNow s).rst
  · simp [andThen_eq_next, eq_comm (a := t)]
  · simp [eq_comm (a := t)]

/-- A `ClkStep` is its parts in order (45_timebase_and_clock R212). -/
theorem clkStep_eq_next {rxPin : Bool} {s t : State} :
    clkStep rxPin s = .next t ↔
      ∃ a b c d, onTick (dispatchTick s) dispatchStep (clearStrobes s) = .next a ∧
        onTick (sampleTick s) (sampleStep s.rx_sync) a = .next b ∧
        onTick (msTick s) msStep b = .next c ∧
        onTick (pwmTick s) pwmStep c = .next d ∧
        t = advancePrescalers (synced rxPin d) := by
  simp only [clkStep, andThen_eq_next, exec, execXSync]
  constructor
  · rintro ⟨a, ha, b, hb, c, hc, d, hd, e, he, ht⟩
    simp only [Host.Outcome.next.injEq] at he ht
    exact ⟨a, b, c, d, ha, hb, hc, hd, by rw [← ht, ← he]⟩
  · rintro ⟨a, b, c, d, ha, hb, hc, hd, rfl⟩
    exact ⟨a, ha, b, hb, c, hc, d, hd, _, rfl, rfl⟩

end Sys2Proof.Machine
end

