-- ==== Sys2Proof/Laws/Meanings.lean ====
section
/-! SUPPORT. For each selected operation: when it completes, and what it then answers. Proofs about a step cite these
instead of unfolding the meanings. -/

namespace Sys2Proof.Machine

/-- S.HUNT (40_sampler R101). -/
theorem execSHunt_eq_next {rx : Bool} {s t : State} :
    execSHunt rx s = .next t ↔ (s.s_state = .hunt ∧ edge rx s = false) ∧ t = { s with prev := rx } := by
  simp [execSHunt, whenSelected_eq_next, eq_comm (a := t)]

/-- S.START (40_sampler R102). -/
theorem execSStart_eq_next {rx : Bool} {s t : State} :
    execSStart rx s = .next t ↔ (s.s_state = .hunt ∧ edge rx s = true) ∧
      t = { s with s_state := .recv, tcnt := BitVec.ofNat 4 (s.params.startDelay - 1), bitn := 0, prev := rx } := by
  simp [execSStart, whenSelected_eq_next, eq_comm (a := t)]

/-- S.WAIT (40_sampler R103). -/
theorem execSWait_eq_next {rx : Bool} {s t : State} :
    execSWait rx s = .next t ↔ (s.s_state = .recv ∧ s.tcnt ≠ 0) ∧ t = { s with tcnt := s.tcnt - 1, prev := rx } := by
  simp [execSWait, whenSelected_eq_next, eq_comm (a := t)]

/-- S.SHIFT (40_sampler R104). -/
theorem execSShift_eq_next {rx : Bool} {s t : State} :
    execSShift rx s = .next t ↔ (s.s_state = .recv ∧ s.tcnt = 0 ∧ s.bitn ≠ 7) ∧
      t = { s with
        shreg := shiftIn rx s.shreg, bitn := s.bitn + 1, tcnt := BitVec.ofNat 4 (Config.oversample - 1)
        prev := rx } := by
  simp [execSShift, whenSelected_eq_next, eq_comm (a := t), and_assoc]

/-- S.LAST (40_sampler R105). -/
theorem execSLast_eq_next {rx : Bool} {s t : State} :
    execSLast rx s = .next t ↔ (s.s_state = .recv ∧ s.tcnt = 0 ∧ s.bitn = 7) ∧
      fifoPush (shiftIn rx s.shreg) { s with shreg := shiftIn rx s.shreg, s_state := .hunt, prev := rx } = .next t := by
  simp [execSLast, whenSelected_eq_next, and_assoc]

/-- F.PUSH (41_fifo R121). -/
theorem execFPush_eq_next {b : Byte} {s t : State} :
    execFPush b s = .next t ↔ full s = false ∧ s.wr < s.params.fifoDepth ∧
      t = { s with mem := Memory.write s.mem s.wr b, wr := nextIndex s s.wr, count := s.count + 1 } := by
  simp [execFPush, whenSelected_eq_next, pushByte_eq_next]

/-- F.DROP (41_fifo R122). -/
theorem execFDrop_eq_next {b : Byte} {s t : State} :
    execFDrop b s = .next t ↔ full s = true ∧ t = dropByte s := by
  simp [execFDrop, whenSelected_eq_next, eq_comm (a := t)]

/-- F.POP (41_fifo R123). -/
theorem execFPop_eq_next {s t : State} :
    execFPop s = .next t ↔ hasData s = true ∧ s.rd < s.params.fifoDepth ∧ t = popped s := by
  simp [execFPop, whenSelected_eq_next, fifoPop_eq_next, eq_comm (a := t)]

/-- B.NONE (42_frame_decoder R135). -/
theorem execBNone_eq_next {s t : State} : execBNone s = .next t ↔ hasData s = false ∧ t = s := by
  simp [execBNone, whenSelected_eq_next, eq_comm (a := t)]

/-- FA.FIRST (42_frame_decoder R136). -/
theorem execFaFirst_eq_next {s t : State} :
    execFaFirst s = .next t ↔ (hasData s = true ∧ s.await_first = true) ∧ s.rd < s.params.fifoDepth ∧
      t = keepFirst (Memory.read s.mem s.rd) (popped s) := by
  simp [execFaFirst, whenSelected_eq_next, fifoPop_eq_next, eq_comm (a := t)]

/-- The KeyCode row of a code answers the press of its name, or the state it is given (43_dispatcher R153 to R169). -/
theorem performKeyCode_eq (code : KeyCode) (s : State) :
    performKeyCode code s =
      .next (if (romName s.params code).isEvent then pressAndForward (romName s.params code) s else s) := by
  unfold performKeyCode
  cases romName s.params code <;> simp only [ButtonName.isEvent, if_true] <;> first | rfl | (split <;> rfl)

/-- FA.SECOND performs the row of the code's name (42_frame_decoder R137). -/
theorem performKeyCode_eq_exec (code : KeyCode) (s : State) :
    performKeyCode code s = exec (keyCodeRow (romName s.params code) code) s := by
  unfold performKeyCode keyCodeRow
  cases romName s.params code <;> first | rfl | (simp only []; split <;> rfl)

/-- FA.SECOND (42_frame_decoder R137). -/
theorem execFaSecond_eq_next {s t : State} :
    execFaSecond s = .next t ↔ (hasData s = true ∧ s.await_first = false) ∧ s.rd < s.params.fifoDepth ∧
      performKeyCode (keyCodeOf s.stored (Memory.read s.mem s.rd))
        (completeFrame (keyCodeOf s.stored (Memory.read s.mem s.rd)) (popped s)) = .next t := by
  simp [execFaSecond, whenSelected_eq_next, fifoPop_eq_next]

/-- FA.SECOND completes with the press of the code's name, or with the completed frame alone (42_frame_decoder R137). -/
theorem execFaSecond_eq {s : State} (hd : hasData s = true) (ha : s.await_first = false)
    (hr : s.rd < s.params.fifoDepth) {code : KeyCode} (hc : code = keyCodeOf s.stored (Memory.read s.mem s.rd)) :
    execFaSecond s = .next
      (if (romName s.params code).isEvent then
        pressAndForward (romName s.params code) (completeFrame code (popped s))
      else completeFrame code (popped s)) := by
  subst hc
  exact execFaSecond_eq_next.2 ⟨⟨hd, ha⟩, hr, performKeyCode_eq _ _⟩

/-- D.TIMEOUT (43_dispatcher R170). -/
theorem execDTimeout_eq_next {s t : State} :
    execDTimeout s = .next t ↔ (pressed s = true ∧ timeUp s = true) ∧ t = forcedStop s := by
  simp [execDTimeout, whenSelected_eq_next, eq_comm (a := t)]

/-- D.HOLD in D_IDLE (43_dispatcher R171). -/
theorem execDHoldIdle_eq_next {s t : State} : execDHoldIdle s = .next t ↔ pressed s = false ∧ t = s := by
  simp [execDHoldIdle, whenSelected_eq_next, eq_comm (a := t)]

/-- D.HOLD in D_PRESSED (43_dispatcher R171). -/
theorem execDHoldPressed_eq_next {s t : State} :
    execDHoldPressed s = .next t ↔ (pressed s = true ∧ timeUp s = false) ∧ t = s := by
  simp [execDHoldPressed, whenSelected_eq_next, eq_comm (a := t)]

/-- M.FWD (44_motor_driver R193). -/
theorem execMFwd_eq_next {w : Wheel} {s t : State} :
    execMFwd w s = .next t ↔
      0 < wheelSpeed w s ∧ t = setWheel w (dutyOf s.params.scaleX100 (wheelSpeed w s), 0) s := by
  simp [execMFwd, whenSelected_eq_next, eq_comm (a := t)]

/-- M.REV (44_motor_driver R194). -/
theorem execMRev_eq_next {w : Wheel} {s t : State} :
    execMRev w s = .next t ↔
      wheelSpeed w s < 0 ∧ t = setWheel w (0, dutyOf s.params.scaleX100 (wheelSpeed w s)) s := by
  simp [execMRev, whenSelected_eq_next, eq_comm (a := t)]

/-- M.STOP (44_motor_driver R195). -/
theorem execMStop_eq_next {w : Wheel} {s t : State} :
    execMStop w s = .next t ↔ wheelSpeed w s = 0 ∧ t = setWheel w (0, 0) s := by
  simp [execMStop, whenSelected_eq_next, eq_comm (a := t)]

/-- PRESS (43_dispatcher R152). -/
theorem execPress_eq_next {name : ButtonName} {s t : State} :
    execPress name s = .next t ↔ name.isEvent = true ∧ t = pressAndForward name s := by
  unfold execPress
  split <;> simp_all [eq_comm (a := t)]

/-- The sample step is the one sample operation that completes (40_sampler R100). -/
theorem sampleStep_eq (rx : Bool) (s : State) :
    sampleStep rx s =
      match s.s_state with
      | .hunt => if edge rx s then execSStart rx s else execSHunt rx s
      | .recv => if s.tcnt = 0 then (if s.bitn = 7 then execSLast rx s else execSShift rx s) else execSWait rx s := by
  unfold sampleStep
  rw [sampleOp_eq]
  cases s.s_state <;> simp only [] <;> (repeat' split) <;> rfl

/-- Phase 1 of the dispatch step (42_frame_decoder R142). -/
theorem exec_byteOp (s : State) :
    exec (byteOp s) s =
      if hasData s then (if s.await_first then execFaFirst s else execFaSecond s) else execBNone s := by
  rw [byteOp_eq]
  (repeat' split) <;> rfl

/-- Phase 2 of the dispatch step answers the forced stop or the state it is given (43_dispatcher R170, R171). -/
theorem exec_timeoutOp (s : State) :
    exec (timeoutOp s) s = .next (if pressed s && timeUp s then forcedStop s else s) := by
  rw [timeoutOp_eq]
  cases hp : pressed s <;> cases ht : timeUp s <;>
    simp [exec, execDTimeout, execDHoldIdle, execDHoldPressed, hp, ht]

end Sys2Proof.Machine
end

