-- ==== Sys2Proof/Laws/Timelines.lean ====
section
/-! SUPPORT. What a step of each of the two timelines can do, and the fields of the states that a step of one timeline is
carried over to. -/

namespace Sys2Proof.Machine

/-- A sample step that completes was one of the five sample operations (40_sampler R100 to R106). -/
theorem sampleStep_cases {s t : State} {rx : Bool} (h : sampleStep rx s = .next t) :
    (s.s_state = .hunt ∧ edge rx s = false ∧ t = { s with prev := rx }) ∨
    (s.s_state = .hunt ∧ edge rx s = true ∧
      t = { s with s_state := .recv, tcnt := BitVec.ofNat 4 (s.params.startDelay - 1), bitn := 0, prev := rx }) ∨
    (s.s_state = .recv ∧ s.tcnt ≠ 0 ∧ t = { s with tcnt := s.tcnt - 1, prev := rx }) ∨
    (s.s_state = .recv ∧ s.tcnt = 0 ∧ s.bitn ≠ 7 ∧
      t = { s with
        shreg := shiftIn rx s.shreg, bitn := s.bitn + 1, tcnt := BitVec.ofNat 4 (Config.oversample - 1), prev := rx }) ∨
    (s.s_state = .recv ∧ s.tcnt = 0 ∧ s.bitn = 7 ∧
      fifoPush (shiftIn rx s.shreg) { s with shreg := shiftIn rx s.shreg, s_state := .hunt, prev := rx } = .next t) := by
  rw [sampleStep_eq] at h
  split at h
  · rename_i hs
    split at h
    · rename_i he
      exact .inr (.inl ⟨hs, he, (execSStart_eq_next.1 h).2⟩)
    · rename_i he
      exact .inl ⟨hs, by simpa using he, (execSHunt_eq_next.1 h).2⟩
  · rename_i hs
    split at h
    · rename_i ht
      split at h
      · rename_i hb
        exact .inr (.inr (.inr (.inr ⟨hs, ht, hb, (execSLast_eq_next.1 h).2⟩)))
      · rename_i hb
        exact .inr (.inr (.inr (.inl ⟨hs, ht, hb, (execSShift_eq_next.1 h).2⟩)))
    · rename_i ht
      exact .inr (.inr (.inl ⟨hs, ht, (execSWait_eq_next.1 h).2⟩))

/-- Where the read index exists, the dispatch step answers the state of its byte operation, or the forced stop of that
state where the timeout has passed (43_dispatcher R150). -/
theorem dispatchStep_cases {s : State} (hr : s.rd < s.params.fifoDepth) :
    ∃ u, exec (byteOp s) s = .next u ∧
      dispatchStep s = .next (if pressed u && timeUp u then forcedStop u else u) ∧
      ((s.count = 0 ∧ u = s) ∨
       (s.count ≠ 0 ∧ s.await_first = true ∧ u = keepFirst (Memory.read s.mem s.rd) (popped s)) ∨
       (s.count ≠ 0 ∧ s.await_first = false ∧ ∃ code, code = keyCodeOf s.stored (Memory.read s.mem s.rd) ∧
          u = if (romName s.params code).isEvent then
              pressAndForward (romName s.params code) (completeFrame code (popped s))
            else completeFrame code (popped s))) := by
  unfold dispatchStep
  rw [exec_byteOp]
  by_cases h0 : s.count = 0
  · have hd : hasData s = false := by simp [hasData, h0]
    simp only [hd, Bool.false_eq_true, if_false]
    rw [execBNone_eq_next.2 ⟨hd, rfl⟩, andThen_next, exec_timeoutOp]
    exact ⟨s, rfl, rfl, .inl ⟨h0, rfl⟩⟩
  · have hd : hasData s = true := by simp [hasData, h0]
    cases ha : s.await_first
    · simp only [hd, if_true, Bool.false_eq_true, if_false]
      rw [execFaSecond_eq hd ha hr rfl, andThen_next, exec_timeoutOp]
      exact ⟨_, rfl, rfl, .inr (.inr ⟨h0, by trivial, _, rfl, rfl⟩)⟩
    · simp only [hd, if_true]
      rw [execFaFirst_eq_next.2 ⟨⟨hd, ha⟩, hr, rfl⟩, andThen_next, exec_timeoutOp]
      exact ⟨_, rfl, rfl, .inr (.inl ⟨h0, by trivial, rfl⟩)⟩

@[simp] theorem withSamplerOf_rx_meta (t u : State) : (withSamplerOf t u).rx_meta = u.rx_meta := rfl
@[simp] theorem withSamplerOf_rx_sync (t u : State) : (withSamplerOf t u).rx_sync = u.rx_sync := rfl
@[simp] theorem withSamplerOf_s_state (t u : State) : (withSamplerOf t u).s_state = t.s_state := rfl
@[simp] theorem withSamplerOf_prev (t u : State) : (withSamplerOf t u).prev = t.prev := rfl
@[simp] theorem withSamplerOf_tcnt (t u : State) : (withSamplerOf t u).tcnt = t.tcnt := rfl
@[simp] theorem withSamplerOf_bitn (t u : State) : (withSamplerOf t u).bitn = t.bitn := rfl
@[simp] theorem withSamplerOf_shreg (t u : State) : (withSamplerOf t u).shreg = t.shreg := rfl
@[simp] theorem withSamplerOf_mem (t u : State) : (withSamplerOf t u).mem = t.mem := rfl
@[simp] theorem withSamplerOf_wr (t u : State) : (withSamplerOf t u).wr = t.wr := rfl
@[simp] theorem withSamplerOf_rd (t u : State) : (withSamplerOf t u).rd = u.rd := rfl
@[simp] theorem withSamplerOf_count (t u : State) : (withSamplerOf t u).count = t.count := rfl
@[simp] theorem withSamplerOf_fifo_ovf (t u : State) : (withSamplerOf t u).fifo_ovf = t.fifo_ovf := rfl
@[simp] theorem withSamplerOf_await_first (t u : State) : (withSamplerOf t u).await_first = u.await_first := rfl
@[simp] theorem withSamplerOf_stored (t u : State) : (withSamplerOf t u).stored = u.stored := rfl
@[simp] theorem withSamplerOf_d_state (t u : State) : (withSamplerOf t u).d_state = u.d_state := rfl
@[simp] theorem withSamplerOf_last_act (t u : State) : (withSamplerOf t u).last_act = u.last_act := rfl
@[simp] theorem withSamplerOf_cmd_l (t u : State) : (withSamplerOf t u).cmd_l = u.cmd_l := rfl
@[simp] theorem withSamplerOf_cmd_r (t u : State) : (withSamplerOf t u).cmd_r = u.cmd_r := rfl
@[simp] theorem withSamplerOf_duty_lf (t u : State) : (withSamplerOf t u).duty_lf = u.duty_lf := rfl
@[simp] theorem withSamplerOf_duty_lr (t u : State) : (withSamplerOf t u).duty_lr = u.duty_lr := rfl
@[simp] theorem withSamplerOf_duty_rf (t u : State) : (withSamplerOf t u).duty_rf = u.duty_rf := rfl
@[simp] theorem withSamplerOf_duty_rr (t u : State) : (withSamplerOf t u).duty_rr = u.duty_rr := rfl
@[simp] theorem withSamplerOf_now (t u : State) : (withSamplerOf t u).now = u.now := rfl
@[simp] theorem withSamplerOf_pwm_cnt (t u : State) : (withSamplerOf t u).pwm_cnt = u.pwm_cnt := rfl
@[simp] theorem withSamplerOf_pre_s (t u : State) : (withSamplerOf t u).pre_s = u.pre_s := rfl
@[simp] theorem withSamplerOf_pre_ms (t u : State) : (withSamplerOf t u).pre_ms = u.pre_ms := rfl
@[simp] theorem withSamplerOf_pre_d (t u : State) : (withSamplerOf t u).pre_d = u.pre_d := rfl
@[simp] theorem withSamplerOf_pre_p (t u : State) : (withSamplerOf t u).pre_p = u.pre_p := rfl
@[simp] theorem withSamplerOf_dbg_code (t u : State) : (withSamplerOf t u).dbg_code = u.dbg_code := rfl
@[simp] theorem withSamplerOf_dbg_name (t u : State) : (withSamplerOf t u).dbg_name = u.dbg_name := rfl
@[simp] theorem withSamplerOf_dbg_valid (t u : State) : (withSamplerOf t u).dbg_valid = u.dbg_valid := rfl
@[simp] theorem withSamplerOf_cmd_valid (t u : State) : (withSamplerOf t u).cmd_valid = u.cmd_valid := rfl
@[simp] theorem withSamplerOf_params (t u : State) : (withSamplerOf t u).params = t.params := rfl
@[simp] theorem withSamplerOf_input (t u : State) : (withSamplerOf t u).input = u.input := rfl
@[simp] theorem withSamplerOf_cycle (t u : State) : (withSamplerOf t u).cycle = u.cycle := rfl

@[simp] theorem withDispatchOf_rx_meta (t u : State) : (withDispatchOf t u).rx_meta = u.rx_meta := rfl
@[simp] theorem withDispatchOf_rx_sync (t u : State) : (withDispatchOf t u).rx_sync = u.rx_sync := rfl
@[simp] theorem withDispatchOf_s_state (t u : State) : (withDispatchOf t u).s_state = u.s_state := rfl
@[simp] theorem withDispatchOf_prev (t u : State) : (withDispatchOf t u).prev = u.prev := rfl
@[simp] theorem withDispatchOf_tcnt (t u : State) : (withDispatchOf t u).tcnt = u.tcnt := rfl
@[simp] theorem withDispatchOf_bitn (t u : State) : (withDispatchOf t u).bitn = u.bitn := rfl
@[simp] theorem withDispatchOf_shreg (t u : State) : (withDispatchOf t u).shreg = u.shreg := rfl
@[simp] theorem withDispatchOf_mem (t u : State) : (withDispatchOf t u).mem = t.mem := rfl
@[simp] theorem withDispatchOf_wr (t u : State) : (withDispatchOf t u).wr = u.wr := rfl
@[simp] theorem withDispatchOf_rd (t u : State) : (withDispatchOf t u).rd = t.rd := rfl
@[simp] theorem withDispatchOf_count (t u : State) : (withDispatchOf t u).count = t.count := rfl
@[simp] theorem withDispatchOf_fifo_ovf (t u : State) : (withDispatchOf t u).fifo_ovf = u.fifo_ovf := rfl
@[simp] theorem withDispatchOf_await_first (t u : State) : (withDispatchOf t u).await_first = t.await_first := rfl
@[simp] theorem withDispatchOf_stored (t u : State) : (withDispatchOf t u).stored = t.stored := rfl
@[simp] theorem withDispatchOf_d_state (t u : State) : (withDispatchOf t u).d_state = t.d_state := rfl
@[simp] theorem withDispatchOf_last_act (t u : State) : (withDispatchOf t u).last_act = t.last_act := rfl
@[simp] theorem withDispatchOf_cmd_l (t u : State) : (withDispatchOf t u).cmd_l = t.cmd_l := rfl
@[simp] theorem withDispatchOf_cmd_r (t u : State) : (withDispatchOf t u).cmd_r = t.cmd_r := rfl
@[simp] theorem withDispatchOf_duty_lf (t u : State) : (withDispatchOf t u).duty_lf = t.duty_lf := rfl
@[simp] theorem withDispatchOf_duty_lr (t u : State) : (withDispatchOf t u).duty_lr = t.duty_lr := rfl
@[simp] theorem withDispatchOf_duty_rf (t u : State) : (withDispatchOf t u).duty_rf = t.duty_rf := rfl
@[simp] theorem withDispatchOf_duty_rr (t u : State) : (withDispatchOf t u).duty_rr = t.duty_rr := rfl
@[simp] theorem withDispatchOf_now (t u : State) : (withDispatchOf t u).now = t.now := rfl
@[simp] theorem withDispatchOf_pwm_cnt (t u : State) : (withDispatchOf t u).pwm_cnt = u.pwm_cnt := rfl
@[simp] theorem withDispatchOf_pre_s (t u : State) : (withDispatchOf t u).pre_s = u.pre_s := rfl
@[simp] theorem withDispatchOf_pre_ms (t u : State) : (withDispatchOf t u).pre_ms = u.pre_ms := rfl
@[simp] theorem withDispatchOf_pre_d (t u : State) : (withDispatchOf t u).pre_d = u.pre_d := rfl
@[simp] theorem withDispatchOf_pre_p (t u : State) : (withDispatchOf t u).pre_p = u.pre_p := rfl
@[simp] theorem withDispatchOf_dbg_code (t u : State) : (withDispatchOf t u).dbg_code = t.dbg_code := rfl
@[simp] theorem withDispatchOf_dbg_name (t u : State) : (withDispatchOf t u).dbg_name = t.dbg_name := rfl
@[simp] theorem withDispatchOf_dbg_valid (t u : State) : (withDispatchOf t u).dbg_valid = t.dbg_valid := rfl
@[simp] theorem withDispatchOf_cmd_valid (t u : State) : (withDispatchOf t u).cmd_valid = t.cmd_valid := rfl
@[simp] theorem withDispatchOf_params (t u : State) : (withDispatchOf t u).params = t.params := rfl
@[simp] theorem withDispatchOf_input (t u : State) : (withDispatchOf t u).input = u.input := rfl
@[simp] theorem withDispatchOf_cycle (t u : State) : (withDispatchOf t u).cycle = u.cycle := rfl

end Sys2Proof.Machine
end

