-- ==== Sys2Proof/Tests/Slice0.lean ====
section
/-! SUPPORT. Tests. Expected values are those of spec 95_test_vectors (V-...), of the examples in the rules (R...), or
worked by hand from the rule named; each runs one step on a small state. The witnesses of the obligations' hypotheses
stand at the end. -/

namespace Sys2Proof.Tests

open Sys2Proof.Machine

/-- What a completed step leaves of the state, or nothing. -/
def after {α : Type} (r : Result) (f : State → α) : Option α :=
  match r with
  | .next s => some (f s)
  | .fault _ => none
  | .refused _ => none

/-- The name a refused step answers with. -/
def refusal : Result → Option Refusal
  | .refused e => some e
  | .fault _ => none
  | .next _ => none

/-- The duty registers in the order of 95_test_vectors. -/
def duties (s : State) : List Nat := [s.duty_lf.toNat, s.duty_lr.toNat, s.duty_rf.toNat, s.duty_rr.toNat]

/-- The command registers. -/
def command (s : State) : Int × Int := (s.cmd_l.toInt, s.cmd_r.toInt)

/-- What V-D1 and V-D2 tabulate: dispatcher state, activity time, command, duties, and whether `cmd_valid` is pulsed. -/
def driveView (s : State) : DispatcherState × Nat × (Int × Int) × List Nat × Bool :=
  (s.d_state, s.last_act, command s, duties s, s.cmd_valid)

/-- D_IDLE at `now` = 5: the start of V-D1. -/
def stopped : State := { State.reset with now := 5 }

/-- D_PRESSED with command (60, 60) since `now` = 10, at `now` = 100: the start of V-D2. -/
def driving : State :=
  { State.reset with
    now := 100, d_state := .pressed, last_act := 10, cmd_l := 60, cmd_r := 60, duty_lf := 39321, duty_rf := 39321 }

/-- A FIFO that holds the given bytes from index 0 on (at most 4 of them). -/
def holding (bs : List Byte) : State :=
  { State.reset with
    mem := (bs.zipIdx).foldl (fun m c => Memory.write m c.2 c.1) [], wr := bs.length % 4, count := bs.length }

/-- Configuration T of 95_test_vectors. -/
def paramsT : Config.Params := { Config.reference with sampleDiv := 1, msDiv := 4, dispDiv := 2, pwmDiv := 1 }

/-! ### WellFormed refuses -/

theorem test_wellFormed_unknown_of_a_listed_code : (Instr.unknown 0x0011).wellFormed = false := by decide
theorem test_wellFormed_unknown_of_an_idle_code : (Instr.unknown 0x0001).wellFormed = false := by decide
theorem test_wellFormed_unknown : (Instr.unknown 0x1100).wellFormed = true := by decide
theorem test_wellFormed_start_edge_on_a_high_line : (Instr.sStart true).wellFormed = false := by decide
theorem test_wellFormed_press_of_idle : (Instr.press .idle).wellFormed = false := by decide
theorem test_wellFormed_press_of_unknown : (Instr.press .unknown).wellFormed = false := by decide
theorem test_wellFormed_press : (Instr.press .lt).wellFormed = true := by decide

/-! ### Decoding: every constructor, from bits written out from 30_encoding R73, R75, R82, R83 -/
theorem test_decode_up : decodeBytes [0b00000000, 0b00010001] = .ok (.up, []) := by decide
theorem test_decode_down : decodeBytes [0b00000000, 0b10000001] = .ok (.down, []) := by decide
theorem test_decode_left : decodeBytes [0b00000000, 0b00100001] = .ok (.left, []) := by decide
theorem test_decode_right : decodeBytes [0b00000000, 0b01000001] = .ok (.right, []) := by decide
theorem test_decode_rightStickUp : decodeBytes [0b00010000, 0b00000001] = .ok (.rightStickUp, []) := by decide
theorem test_decode_rightStickDown : decodeBytes [0b10000000, 0b00000001] = .ok (.rightStickDown, []) := by decide
theorem test_decode_rightStickLeft : decodeBytes [0b01000000, 0b00000001] = .ok (.rightStickLeft, []) := by decide
theorem test_decode_rightStickRight : decodeBytes [0b00100000, 0b00000001] = .ok (.rightStickRight, []) := by decide
theorem test_decode_l1 : decodeBytes [0b00000000, 0b00001001] = .ok (.l1, []) := by decide
theorem test_decode_l2 : decodeBytes [0b00000000, 0b00000101] = .ok (.l2, []) := by decide
theorem test_decode_lt : decodeBytes [0b00000000, 0b00000011] = .ok (.lt, []) := by decide
theorem test_decode_r1 : decodeBytes [0b00001000, 0b00000001] = .ok (.r1, []) := by decide
theorem test_decode_r2 : decodeBytes [0b00000100, 0b00000001] = .ok (.r2, []) := by decide
theorem test_decode_rt : decodeBytes [0b00000010, 0b00000001] = .ok (.rt, []) := by decide
theorem test_decode_idle0000 : decodeBytes [0b00000000, 0b00000000] = .ok (.idle0000, []) := by decide
theorem test_decode_idle0001 : decodeBytes [0b00000000, 0b00000001] = .ok (.idle0001, []) := by decide
theorem test_decode_unknown : decodeBytes [0b00010001, 0b00000000] = .ok (.unknown 0x1100, []) := by decide
theorem test_decode_two_buttons : decode (.keycode 0b0000000000110001) = .ok (.unknown 0x0031) := by decide
theorem test_decode_sHunt : decode (.ssel 0b0011 false) = .ok (.sHunt false) := by decide
theorem test_decode_sStart : decode (.ssel 0b0110 false) = .ok (.sStart false) := by decide
theorem test_decode_sWait : decode (.ssel 0b1101 false) = .ok (.sWait false) := by decide
theorem test_decode_sShift : decode (.ssel 0b1110 false) = .ok (.sShift false) := by decide
theorem test_decode_sLast : decode (.ssel 0b1011 true) = .ok (.sLast true) := by decide
theorem test_decode_fPush : decode (.psel 0b0 0x11) = .ok (.fPush 0x11) := by decide
theorem test_decode_fDrop : decode (.psel 0b1 0x05) = .ok (.fDrop 0x05) := by decide
theorem test_decode_fPop : decode (.pop 0b11) = .ok .fPop := by decide
theorem test_decode_bNone : decode (.bsel 0b01) = .ok .bNone := by decide
theorem test_decode_faFirst : decode (.bsel 0b11) = .ok .faFirst := by decide
theorem test_decode_faSecond : decode (.bsel 0b10) = .ok .faSecond := by decide
theorem test_decode_dTimeout : decode (.tsel 0b11) = .ok .dTimeout := by decide
theorem test_decode_dHoldIdle : decode (.tsel 0b01) = .ok .dHoldIdle := by decide
theorem test_decode_dHoldPressed : decode (.tsel 0b10) = .ok .dHoldPressed := by decide
theorem test_decode_mFwd : decode (.wsel 0b00 .left) = .ok (.mFwd .left) := by decide
theorem test_decode_mRev : decode (.wsel 0b10 .right) = .ok (.mRev .right) := by decide
theorem test_decode_mStop : decode (.wsel 0b11 .left) = .ok (.mStop .left) := by decide
theorem test_decode_decode : decode (.always (.decode 0x0021)) = .ok (.decode 0x0021) := by decide
theorem test_decode_press : decode (.always (.press .up)) = .ok (.press .up) := by decide
theorem test_decode_mApply : decode (.always .mApply) = .ok .mApply := by decide
theorem test_decode_tMs : decode (.always .tMs) = .ok .tMs := by decide
theorem test_decode_pStep : decode (.always .pStep) = .ok .pStep := by decide
theorem test_decode_xSync : decode (.always (.xSync true)) = .ok (.xSync true) := by decide

/-! ### The decoder refuses by name -/

theorem test_decode_short_frame : decodeBytes [0x00] = .error .shortFrame := by decide
theorem test_decode_no_bytes : decodeBytes [] = .error .shortFrame := by decide
theorem test_decode_edge_on_high_line : decode (.ssel 0b0100 true) = .error .edgeOnHighLine := by decide
theorem test_decode_pop_without_data : decode (.pop 0b01) = .error .popWithoutData := by decide
theorem test_decode_press_of_idle : decode (.always (.press .idle)) = .error .notAButtonEvent := by decide

/-! ### The wire format -/

/-- P1's encoding of 0x11: start, then bits 0 to 7 (30_encoding R70, 95_test_vectors part 3). -/
theorem test_wire_intervals :
    wireIntervals 0x11 = [false, true, false, false, false, true, false, false, false] := by decide

/-- 72 sample ticks (30_encoding R85). -/
theorem test_wire_length : (wireByte 0xA5).length = 72 := by decide

/-! ### The table's words, and placing them -/

theorem test_tableWord_keycode : decodeTableWord 16 0x4001 = some .rightStickLeft := by decide
theorem test_tableWord_ssel : decodeTableWord 8 0b1011 = some (.sLast true) := by decide
theorem test_tableWord_ambiguous : decodeTableWord 8 0b01 = none := by decide

/-- A placed KeyCode is what the next step performs (R153). -/
theorem test_placed_up : after (step (State.reset.withFetchWord 16 0x0011)) driveView =
    some (.pressed, 0, (60, 60), [39321, 0, 39321, 0], true) := by decide

/-- A placed sampler word too (R102). -/
theorem test_placed_start : after (step (State.reset.withFetchWord 8 0b0100)) (fun s => (s.s_state, s.tcnt)) =
    some (.recv, 11) := by decide

/-! ### The KeyCode rows (V-D1, V-D2) -/
theorem test_up_from_idle : after (exec .up stopped) driveView =
    some (.pressed, 5, (60, 60), [39321, 0, 39321, 0], true) := by decide
theorem test_up_from_pressed : after (exec .up driving) driveView =
    some (.pressed, 100, (60, 60), [39321, 0, 39321, 0], true) := by decide
theorem test_down_from_idle : after (exec .down stopped) driveView =
    some (.pressed, 5, (-60, -60), [0, 39321, 0, 39321], true) := by decide
theorem test_down_from_pressed : after (exec .down driving) driveView =
    some (.pressed, 100, (-60, -60), [0, 39321, 0, 39321], true) := by decide
theorem test_left_from_idle : after (exec .left stopped) driveView =
    some (.pressed, 5, (-60, 60), [0, 39321, 39321, 0], true) := by decide
theorem test_left_from_pressed : after (exec .left driving) driveView =
    some (.pressed, 100, (-60, 60), [0, 39321, 39321, 0], true) := by decide
theorem test_right_from_idle : after (exec .right stopped) driveView =
    some (.pressed, 5, (60, -60), [39321, 0, 0, 39321], true) := by decide
theorem test_right_from_pressed : after (exec .right driving) driveView =
    some (.pressed, 100, (60, -60), [39321, 0, 0, 39321], true) := by decide
theorem test_rightStickUp_from_idle : after (exec .rightStickUp stopped) driveView =
    some (.pressed, 5, (0, 0), [0, 0, 0, 0], true) := by decide
theorem test_rightStickUp_from_pressed : after (exec .rightStickUp driving) driveView =
    some (.pressed, 100, (60, 60), [39321, 0, 39321, 0], true) := by decide
theorem test_rightStickDown_from_idle : after (exec .rightStickDown stopped) driveView =
    some (.pressed, 5, (0, 0), [0, 0, 0, 0], true) := by decide
theorem test_rightStickDown_from_pressed : after (exec .rightStickDown driving) driveView =
    some (.pressed, 100, (60, 60), [39321, 0, 39321, 0], true) := by decide
theorem test_rightStickLeft_from_idle : after (exec .rightStickLeft stopped) driveView =
    some (.pressed, 5, (0, 0), [0, 0, 0, 0], true) := by decide
theorem test_rightStickLeft_from_pressed : after (exec .rightStickLeft driving) driveView =
    some (.pressed, 100, (60, 60), [39321, 0, 39321, 0], true) := by decide
theorem test_rightStickRight_from_idle : after (exec .rightStickRight stopped) driveView =
    some (.pressed, 5, (0, 0), [0, 0, 0, 0], true) := by decide
theorem test_rightStickRight_from_pressed : after (exec .rightStickRight driving) driveView =
    some (.pressed, 100, (60, 60), [39321, 0, 39321, 0], true) := by decide
theorem test_l1_from_idle : after (exec .l1 stopped) driveView =
    some (.pressed, 5, (0, 0), [0, 0, 0, 0], true) := by decide
theorem test_l1_from_pressed : after (exec .l1 driving) driveView =
    some (.pressed, 100, (60, 60), [39321, 0, 39321, 0], true) := by decide
theorem test_l2_from_idle : after (exec .l2 stopped) driveView =
    some (.pressed, 5, (0, 0), [0, 0, 0, 0], true) := by decide
theorem test_l2_from_pressed : after (exec .l2 driving) driveView =
    some (.pressed, 100, (60, 60), [39321, 0, 39321, 0], true) := by decide
theorem test_lt_from_idle : after (exec .lt stopped) driveView =
    some (.pressed, 5, (0, 0), [0, 0, 0, 0], true) := by decide
theorem test_lt_from_pressed : after (exec .lt driving) driveView =
    some (.pressed, 100, (60, 60), [39321, 0, 39321, 0], true) := by decide
theorem test_r1_from_idle : after (exec .r1 stopped) driveView =
    some (.pressed, 5, (0, 0), [0, 0, 0, 0], true) := by decide
theorem test_r1_from_pressed : after (exec .r1 driving) driveView =
    some (.pressed, 100, (60, 60), [39321, 0, 39321, 0], true) := by decide
theorem test_r2_from_idle : after (exec .r2 stopped) driveView =
    some (.pressed, 5, (0, 0), [0, 0, 0, 0], true) := by decide
theorem test_r2_from_pressed : after (exec .r2 driving) driveView =
    some (.pressed, 100, (60, 60), [39321, 0, 39321, 0], true) := by decide
theorem test_rt_from_idle : after (exec .rt stopped) driveView =
    some (.pressed, 5, (0, 0), [0, 0, 0, 0], true) := by decide
theorem test_rt_from_pressed : after (exec .rt driving) driveView =
    some (.pressed, 100, (60, 60), [39321, 0, 39321, 0], true) := by decide
theorem test_idle0000_changes_nothing : after (exec .idle0000 driving) id = some driving := by decide
theorem test_idle0001_changes_nothing : after (exec .idle0001 driving) id = some driving := by decide
theorem test_unknown_changes_nothing : after (exec (.unknown 0x1234) driving) id = some driving := by decide

/-! ### The sampler (V-S1, V-S6, V-S7) -/

/-- Tick 0 of V-S1. -/
theorem test_sHunt_high : after (sampleStep true State.reset) (fun s => (s.s_state, s.prev)) = some (.hunt, true) := by
  decide
/-- V-S7: a low line from reset. -/
theorem test_sHunt_low : after (sampleStep false State.reset) id = some State.reset := by decide
/-- Tick 4 of V-S1. -/
theorem test_sStart : after (sampleStep false { State.reset with prev := true, bitn := 7 })
    (fun s => (s.s_state, s.tcnt, s.bitn, s.prev)) = some (.recv, 11, 0, false) := by decide
/-- V-S9: START_DELAY = 4. -/
theorem test_sStart_delay : after (exec (.sStart false)
    { State.reset with prev := true, params := { Config.reference with startDelay := 4 } }) (fun s => s.tcnt) =
    some 3 := by decide
/-- The example of R103; the line is high. -/
theorem test_sWait : after (sampleStep true { State.reset with s_state := .recv, tcnt := 11, prev := true })
    (fun s => (s.s_state, s.tcnt, s.bitn, s.shreg, s.prev)) = some (.recv, 10, 0, 0x00, true) := by decide
/-- R107: a falling edge inside a byte starts nothing. -/
theorem test_sWait_ignores_an_edge : after (sampleStep false { State.reset with s_state := .recv, tcnt := 3, prev := true })
    (fun s => (s.s_state, s.tcnt, s.prev)) = some (.recv, 2, false) := by decide
/-- The example of R104. -/
theorem test_sShift : after (sampleStep true { State.reset with s_state := .recv })
    (fun s => (s.shreg, s.bitn, s.tcnt)) = some (0x80, 1, 7) := by decide
/-- Tick 64 of V-S1. -/
theorem test_sShift_last_but_one : after (sampleStep false { State.reset with s_state := .recv, bitn := 6, shreg := 0x44 })
    (fun s => (s.shreg, s.bitn, s.s_state)) = some (0x22, 7, .recv) := by decide
/-- Tick 72 of V-S1, the example of R105. -/
theorem test_sLast : after (sampleStep false { State.reset with s_state := .recv, bitn := 7, shreg := 0x22, prev := true })
    id = some { State.reset with shreg := 0x11, bitn := 7, mem := [(0, 0x11)], wr := 1, count := 1 } := by decide
/-- V-F2: a byte completed into a full FIFO is dropped. -/
theorem test_sLast_full :
    after (sampleStep false { holding [1, 2, 3, 4] with s_state := .recv, bitn := 7, shreg := 0x0A })
    (fun s => (fifoContents s, s.fifo_ovf, s.s_state)) = some ([1, 2, 3, 4], true, .hunt) := by decide
/-- X.SYNC (R110). -/
theorem test_xSync : after (exec (.xSync true) State.reset) (fun s => (s.rx_meta, s.rx_sync)) =
    some (true, false) := by decide
theorem test_xSync_second : after (exec (.xSync false) { State.reset with rx_meta := true })
    (fun s => (s.rx_meta, s.rx_sync)) = some (false, true) := by decide

/-! ### The FIFO (V-F1) -/

/-- The row PUSH 0x04: the write index wraps. -/
theorem test_fPush_wraps :
    after (exec (.fPush 0x04) { State.reset with mem := [(0, 1), (1, 2), (2, 3)], wr := 3, rd := 2, count := 1 })
    id = some { State.reset with mem := [(0, 1), (1, 2), (2, 3), (3, 4)], wr := 0, rd := 2, count := 2 } := by decide
/-- Pushing what an unlisted entry reads as keeps the canonical form. -/
theorem test_fPush_zero : after (exec (.fPush 0x00) { State.reset with mem := [(0, 5)], rd := 0 })
    (fun s => (s.mem, s.count, fifoContents s)) = some ([], 1, [0x00]) := by decide
/-- The example of R122. -/
theorem test_fDrop : after (exec (.fDrop 5) (holding [1, 2, 3, 4])) (fun s => (fifoContents s, s.fifo_ovf, s.wr)) =
    some ([1, 2, 3, 4], true, 0) := by decide
/-- A FIFO with room refuses F.DROP: its selector word does not select it. -/
theorem test_fDrop_not_selected : refusal (exec (.fDrop 5) (holding [1])) = some .notSelected := by decide
/-- The example of R123. -/
theorem test_fPop : after (exec .fPop (holding [0x00, 0x11])) (fun s => (fifoContents s, s.rd, s.count)) =
    some ([0x11], 1, 1) := by decide
/-- The read index wraps (V-F1). -/
theorem test_fPop_wraps : after (exec .fPop { State.reset with mem := [(0, 5), (3, 4)], wr := 1, rd := 3, count := 2 })
    (fun s => (fifoContents s, s.rd)) = some ([5], 0) := by decide

/-! ### The frame assembler (V-A1, V-A2, V-A3) -/

theorem test_bNone : after (exec .bNone { State.reset with await_first := false }) id =
    some { State.reset with await_first := false } := by decide
theorem test_faFirst : after (exec .faFirst { holding [0xA5, 0x11] with stored := 0x77 })
    (fun s => (s.stored, s.await_first, fifoContents s)) = some (0xA5, false, [0x11]) := by decide
/-- Step DISP 4 of V-A1. -/
theorem test_faSecond_left : after (exec .faSecond { holding [0x21] with await_first := false })
    id = some { holding [0x21] with
      rd := 1, count := 0, await_first := true, dbg_code := 0x0021, dbg_name := 3, dbg_valid := true
      d_state := .pressed, cmd_l := BitVec.ofInt 8 (-60), cmd_r := 60, duty_lr := 39321, duty_rf := 39321
      cmd_valid := true } := by decide
/-- V-A2. -/
theorem test_faSecond_unknown : after (exec .faSecond { holding [0x00] with await_first := false, stored := 0x11 })
    id = some { holding [0x00] with
      rd := 1, count := 0, await_first := true, stored := 0x11
      dbg_code := 0x1100, dbg_name := 15, dbg_valid := true } := by decide
/-- V-A3. -/
theorem test_decode_names :
    [0x0011, 0x0081, 0x0021, 0x0041, 0x1001, 0x8001, 0x4001, 0x2001, 0x0009, 0x0005, 0x0003, 0x0801, 0x0401, 0x0201,
      0x0000, 0x0001, 0x0002, 0x0010, 0x0031, 0x0101, 0x1000, 0x0100, 0x8000, 0xFF00, 0xFFFF].map
        (fun code => (romName Config.reference code).code) =
    [1, 2, 3, 4, 5, 6, 7, 8, 9, 10, 11, 12, 13, 14, 0, 0, 15, 15, 15, 15, 15, 15, 15, 15, 15] := by decide
theorem test_decode_writes_nothing : after (exec (.decode 0x0021) driving) id = some driving := by decide
/-- An overriding button ROM (00_scope R4): 0x0002 is Up there, and the listed 0x0011 is unlisted. -/
theorem test_overriding_button_rom :
    [0x0002, 0x0011].map (romName { Config.reference with buttonRom := some [(0x0002, .up)] }) = [.up, .unknown] := by
  decide

/-! ### The dispatcher (V-D5, V-D7, V-D8) -/

theorem test_press : after (exec (.press .down) driving) driveView =
    some (.pressed, 100, (-60, -60), [0, 39321, 0, 39321], true) := by decide
/-- An overriding direction ROM (00_scope R4); its speeds are clamped (44_motor_driver R191). -/
theorem test_overriding_direction_rom :
    after (exec (.press .l1) { State.reset with
      params := { Config.reference with dirRom := some [(.l1, (-128, 1))] } }) driveView =
    some (.pressed, 0, (-100, 1), [0, 65535, 655, 0], true) := by decide
theorem test_dTimeout : after (exec .dTimeout { driving with last_act := 1000, now := 1151 }) driveView =
    some (.idle, 1000, (0, 0), [0, 0, 0, 0], true) := by decide
/-- Across the wrap of the timer (V-D7). -/
theorem test_dTimeout_wrap : after (exec .dTimeout { driving with last_act := 4294967286, now := 141 }) driveView =
    some (.idle, 4294967286, (0, 0), [0, 0, 0, 0], true) := by decide
theorem test_dHoldPressed : after (exec .dHoldPressed { driving with last_act := 1000, now := 1150 }) id =
    some { driving with last_act := 1000, now := 1150 } := by decide
theorem test_dHoldPressed_wrap : after (exec .dHoldPressed { driving with last_act := 4294967286, now := 140 }) id =
    some { driving with last_act := 4294967286, now := 140 } := by decide
theorem test_dHoldIdle : after (exec .dHoldIdle { State.reset with now := 1152 }) id =
    some { State.reset with now := 1152 } := by decide
/-- V-D8 (a), first step: the first byte of a late frame does not hold off the timeout. -/
theorem test_first_byte_does_not_refresh :
    after (dispatchStep { driving with last_act := 0, now := 200, mem := [(1, 0x21)], wr := 2, count := 2 })
    id = some { State.reset with
      now := 200, mem := [(1, 0x21)], wr := 2, rd := 1, count := 1, await_first := false, cmd_valid := true } := by
  decide
/-- V-D8 (b): the event wins. -/
theorem test_event_beats_timeout :
    after (dispatchStep { driving with
      last_act := 0, now := 200, await_first := false, mem := [(0, 0x21)], wr := 1, count := 1 }) driveView =
    some (.pressed, 200, (-60, 60), [0, 39321, 39321, 0], true) := by decide

/-! ### The motor driver (V-M1 to V-M6) -/

theorem test_dutyOf : [0, 1, 2, 10, 30, 50, 60, 70, 90, 99, 100, 127, -128].map (fun s => (dutyOf 65535 s).toNat) =
    [0, 655, 1311, 6554, 19661, 32768, 39321, 45875, 58982, 64880, 65535, 65535, 65535] := by decide
theorem test_dutyOf_scale : ((dutyOf 100000 65).toNat, (dutyOf 100000 66).toNat, (dutyOf 40 1).toNat) =
    (65000, 65535, 0) := by decide
theorem test_clamp : [127, 101, -101, -128, -100, 0].map clamp = [100, 100, -100, -100, -100, 0] := by decide
theorem test_mFwd : after (exec (.mFwd .left) { State.reset with cmd_l := 1, duty_lr := 7, duty_rf := 9 }) duties =
    some [655, 0, 9, 0] := by decide
theorem test_mRev : after (exec (.mRev .right) { State.reset with cmd_r := BitVec.ofInt 8 (-128), duty_rf := 7 }) duties =
    some [0, 0, 0, 65535] := by decide
theorem test_mStop : after (exec (.mStop .left) { State.reset with duty_lf := 7, duty_rf := 9 }) duties =
    some [0, 0, 9, 0] := by decide
theorem test_mStop_not_selected : refusal (exec (.mStop .left) driving) = some .notSelected := by decide
theorem test_mApply : after (exec .mApply { State.reset with cmd_l := 60, cmd_r := BitVec.ofInt 8 (-60) })
    (fun s => (duties s, s.cmd_valid)) = some ([39321, 0, 0, 39321], true) := by decide
/-- V-M6: an update inside the PWM period acts at once. -/
theorem test_mApply_acts_at_once :
    after (exec .mApply { State.reset with pwm_cnt := 50000, duty_lf := 39321, cmd_l := 100 })
    (fun s => (outputs s).pwm_lf) = some true := by decide
/-- V-M5: the pins at `pwm_cnt` = 39320 and at 39321. -/
theorem test_pwm_pins : [39320, 39321].map (fun c =>
      let o := outputs { State.reset with pwm_cnt := c, duty_lf := 39321, duty_rr := 65535 }
      (o.pwm_lf, o.pwm_lr, o.pwm_rf, o.pwm_rr)) =
    [(true, false, false, true), (false, false, false, true)] := by decide
theorem test_pStep : after (exec .pStep State.reset) (fun s => s.pwm_cnt) = some 1 := by decide
theorem test_pStep_wraps : after (exec .pStep { State.reset with pwm_cnt := 65534 }) (fun s => s.pwm_cnt) = some 0 := by
  decide

/-! ### The clock edge (V-T1, V-T2, V-T4, V-F3 to V-F5) -/

theorem test_tMs : after (exec .tMs State.reset) (fun s => s.now) = some 1 := by decide
theorem test_tMs_wraps : after (exec .tMs { State.reset with now := 0xFFFFFFFF }) (fun s => s.now) = some 0 := by decide

/-- Cycle 0 of V-T2. -/
theorem test_first_cycle : after (clkStep true { State.reset with params := paramsT })
    (fun s => (s.rx_meta, s.rx_sync, s.prev, s.pwm_cnt, s.pre_d, s.pre_ms)) = some (true, false, false, 1, 1, 1) := by
  decide

/-- Cycle 3 of V-T2. -/
theorem test_fourth_cycle : after (clkStep true { State.reset with
      params := paramsT, rx_meta := true, rx_sync := true, prev := true, pwm_cnt := 3, pre_d := 1, pre_ms := 3 })
    (fun s => (s.now, s.pwm_cnt, s.pre_ms, s.pre_d)) = some (1, 4, 0, 0) := by decide

/-- The start of V-F3, with the bytes held and the prescaler of the dispatch tick to choose. -/
def completing (bs : List Byte) (pre : Nat) : State :=
  { holding bs with params := paramsT, s_state := .recv, bitn := 7, shreg := 0x0A, pre_d := pre }

theorem test_pop_frees_an_entry : after (clkStep true (completing [1, 2, 3, 4] 1)) id =
    some { completing [1, 2, 3, 4] 0 with
      mem := [(0, 5), (1, 2), (2, 3), (3, 4)], wr := 1, rd := 1, stored := 0x01, await_first := false
      s_state := .hunt, shreg := 0x05, pwm_cnt := 1, pre_ms := 1, rx_meta := true } := by decide
theorem test_no_pop_drops : after (clkStep true (completing [1, 2, 3, 4] 0))
    (fun s => (s.mem, s.count, s.fifo_ovf, s.await_first)) =
    some ([(0, 1), (1, 2), (2, 3), (3, 4)], 4, true, true) := by decide
theorem test_push_is_not_seen : after (clkStep true (completing [] 1)) id =
    some { completing [5] 0 with
      s_state := .hunt, shreg := 0x05, pwm_cnt := 1, pre_ms := 1, rx_meta := true } := by decide

/-- V-T4: reset wins over a dispatch tick, and every register has its reset value. -/
theorem test_reset_wins : after (step { driving with pre_d := 38399, count := 2, input := [⟨true, true⟩] }) id =
    some { State.reset with cycle := 1 } := by decide

/-- A strobe lasts one cycle (10_state R20). -/
theorem test_strobes_fall : after (clkStep true { State.reset with dbg_valid := true, cmd_valid := true })
    (fun s => (s.dbg_valid, s.cmd_valid)) = some (false, false) := by decide

/-! ### Witnesses: for every statement with hypotheses, a state and operands that meet them all -/

/-- The invariants, as far as a state lists data, in one check. -/
def invariantCheck (s : State) : Bool :=
  s.count ≤ s.params.fifoDepth && s.rd < s.params.fifoDepth && s.wr == (s.rd + s.count) % s.params.fifoDepth &&
  Memory.wf s.mem && s.mem.all (fun c => c.1 < s.params.fifoDepth) &&
  -100 ≤ s.cmd_l.toInt && s.cmd_l.toInt ≤ 100 && -100 ≤ s.cmd_r.toInt && s.cmd_r.toInt ≤ 100 &&
  (s.d_state == .pressed || (s.cmd_l == 0 && s.cmd_r == 0)) &&
  (s.duty_lf, s.duty_lr) == wheelDuty s.params.scaleX100 s.cmd_l.toInt &&
  (s.duty_rf, s.duty_rr) == wheelDuty s.params.scaleX100 s.cmd_r.toInt &&
  (s.s_state == .hunt || s.tcnt.toNat ≤ max s.params.startDelay Config.oversample - 1) &&
  s.pwm_cnt.toNat ≤ 65534 && s.now < 2 ^ s.params.timerWidth && s.last_act < 2 ^ s.params.timerWidth &&
  s.pre_s < s.params.sampleDiv && s.pre_ms < s.params.msDiv && s.pre_d < s.params.dispDiv &&
  s.pre_p < s.params.pwmDiv

/-- An index that no cell lists reads as unlisted. -/
theorem read_of_all_below {m : Memory} {n : Nat} (h : m.all (fun c => c.1 < n) = true) {a : Nat} (ha : n ≤ a) :
    Memory.read m a = Memory.unlisted := by
  induction m with
  | nil => rfl
  | cons c m ih =>
    obtain ⟨b, w⟩ := c
    simp only [List.all_cons, Bool.and_eq_true, decide_eq_true_eq] at h
    have hne : a ≠ b := by omega
    simp only [Memory.read, hne, if_false]
    exact ih h.2

/-- A state with legal parameters that passes the check meets the invariants. -/
theorem invariants_of_check {s : State} (hl : s.params.Legal) (h : invariantCheck s = true) : Invariants s := by
  simp only [invariantCheck, Bool.and_eq_true, Bool.or_eq_true, decide_eq_true_eq, beq_iff_eq] at h
  obtain ⟨⟨⟨⟨⟨⟨⟨⟨⟨⟨⟨⟨⟨⟨⟨⟨⟨⟨⟨h1, h2⟩, h3⟩, h4⟩, h5⟩, h6⟩, h7⟩, h8⟩, h9⟩, h10⟩, h11⟩, h12⟩, h13⟩, h14⟩, h15⟩, h16⟩, h17⟩,
    h18⟩, h19⟩, h20⟩ := h
  exact {
    legal := hl, countBound := h1, rdBound := h2, wrFollows := h3, memWf := h4
    memDomain := fun a ha => read_of_all_below h5 ha
    cmdLRange := ⟨h6, h7⟩, cmdRRange := ⟨h8, h9⟩
    idleStopped := fun hi => h10.resolve_left (by rw [hi]; decide)
    dutyLeft := h11, dutyRight := h12
    tcntRange := fun hr => h13.resolve_left (by rw [hr]; decide)
    pwmRange := h14, nowRange := h15, lastRange := h16
    preSRange := h17, preMsRange := h18, preDRange := h19, prePRange := h20 }

/-- The reference values are legal (00_scope R4). -/
theorem legal_reference : Config.reference.Legal := by constructor <;> decide

/-- The line idle, as at the start of V-S1 after its first tick. -/
def idleLine : State := { State.reset with prev := true }

/-- As V-F3, at the reference parameters: the FIFO full, both ticks fire, the last payload bit is sampled. -/
def fullAndCompleting : State :=
  { holding [1, 2, 3, 4] with s_state := .recv, bitn := 7, shreg := 0x0A, pre_d := 38399, pre_s := 999 }

/-- The same with one free entry. -/
def roomAndCompleting : State := { holding [1, 2, 3] with s_state := .recv, bitn := 7, shreg := 0x0A }

/-- The second byte of a frame waits at index 3, the first is stored. -/
def secondWaiting (first second : Byte) : State :=
  { driving with
    await_first := false, stored := first, mem := Memory.write [] 3 second, rd := 3, wr := 0, count := 1 }

/-- A dispatch tick, no reset and an idle line at the coming edge. -/
def atDispatch (s : State) : State := { s with pre_d := 38399, input := [⟨false, true⟩] }

theorem witness_idleLine : Invariants idleLine := invariants_of_check legal_reference (by decide)
theorem witness_driving : Invariants driving := invariants_of_check legal_reference (by decide)
theorem witness_fullAndCompleting : Invariants fullAndCompleting := invariants_of_check legal_reference (by decide)
theorem witness_roomAndCompleting : Invariants roomAndCompleting := invariants_of_check legal_reference (by decide)
theorem witness_secondWaiting : Invariants (secondWaiting 0x00 0x21) := invariants_of_check legal_reference (by decide)

theorem witness_DecodeGivesBackEveryEncodedOperation :
    (Instr.unknown 0x0002).wellFormed = true ∧ (Instr.sStart false).wellFormed = true ∧
    (Instr.press .rt).wellFormed = true := by decide
theorem witness_DecodedOperationsAreWellFormed : decode (.keycode 0xFFFF) = .ok (.unknown 0xFFFF) := by decide
/-- Each clause at a boundary: 2 is the least unlisted code, 1 the greatest idle one, 3 the least button. -/
theorem witness_DecodeNamesEveryCode :
    (0x0002 : KeyCode) ∉ listedCodes ∧ ((0x0001 : KeyCode) = 0x0000 ∨ (0x0001 : KeyCode) = 0x0001) ∧
    ((0x0003 : KeyCode) ∈ listedCodes ∧ (0x0003 : KeyCode) ≠ 0x0000 ∧ (0x0003 : KeyCode) ≠ 0x0001) ∧
    Config.reference.buttonRom = none := by decide
theorem witness_WireByteIsReceived :
    Invariants { holding [1, 2, 3] with prev := true } ∧ State.reset.params.startDelay = 12 ∧
    (holding [1, 2, 3]).s_state = .hunt ∧ (holding [1, 2, 3]).count < State.reset.params.fifoDepth :=
  ⟨invariants_of_check legal_reference (by decide), rfl, rfl, by decide⟩
theorem witness_DirectionRowsSetCommandAndDuties : State.reset.params.dirRom = none := rfl
theorem witness_OtherButtonsRefreshAndKeepTheCommand : driving.params.dirRom = none ∧ Invariants driving :=
  ⟨rfl, witness_driving⟩
theorem witness_IdleAndUnknownRowsChangeNothing : keyCodeOf 0x00 0x02 ∉ listedCodes := by decide
theorem witness_PressRecordsAndForwards :
    (ButtonName.up.isEvent = true ∧ dirRom driving.params .up = some (60, 60)) ∧
    (ButtonName.rt.isEvent = true ∧ dirRom driving.params .rt = none ∧ Invariants driving) :=
  ⟨by decide, by decide, by decide, witness_driving⟩
/-- A steady high line, and a low one. -/
theorem witness_HuntOnlyTracksTheLine :
    (idleLine.s_state = .hunt ∧ ¬(idleLine.prev = true ∧ true = false)) ∧
    (State.reset.s_state = .hunt ∧ ¬(State.reset.prev = true ∧ false = false)) := by decide
theorem witness_FallingEdgeStartsReception :
    idleLine.params.Legal ∧ idleLine.s_state = .hunt ∧ idleLine.prev = true := ⟨legal_reference, rfl, rfl⟩
theorem witness_WaitCountsDown :
    let s := { State.reset with s_state := .recv, tcnt := 1 }
    s.s_state = .recv ∧ s.tcnt ≠ 0 := by decide
theorem witness_ShiftTakesOnePayloadBit :
    let s := { State.reset with s_state := .recv, bitn := 6 }
    s.s_state = .recv ∧ s.tcnt = 0 ∧ s.bitn ≠ 7 := by decide
/-- With one free entry, and with none. -/
theorem witness_LastBitPushesTheByte :
    (Invariants roomAndCompleting ∧ roomAndCompleting.s_state = .recv ∧ roomAndCompleting.tcnt = 0 ∧
      roomAndCompleting.bitn = 7 ∧ roomAndCompleting.count ≠ roomAndCompleting.params.fifoDepth) ∧
    (Invariants fullAndCompleting ∧ fullAndCompleting.s_state = .recv ∧ fullAndCompleting.tcnt = 0 ∧
      fullAndCompleting.bitn = 7 ∧ fullAndCompleting.count = fullAndCompleting.params.fifoDepth) :=
  ⟨⟨witness_roomAndCompleting, rfl, rfl, rfl, by decide⟩, ⟨witness_fullAndCompleting, rfl, rfl, rfl, rfl⟩⟩
theorem witness_ReceptionTakesItsBitsAtTheirInstants :
    Invariants idleLine ∧ idleLine.s_state = .hunt ∧ idleLine.prev = true ∧
    idleLine.count < idleLine.params.fifoDepth ∧ (List.replicate 68 true).length = idleLine.params.startDelay + 56 :=
  ⟨witness_idleLine, rfl, rfl, by decide, rfl⟩
theorem witness_LowLineNeverStarts : State.reset.s_state = .hunt ∧ State.reset.prev = false := ⟨rfl, rfl⟩
theorem witness_PushAppends :
    Invariants roomAndCompleting ∧ roomAndCompleting.count < roomAndCompleting.params.fifoDepth :=
  ⟨witness_roomAndCompleting, by decide⟩
/-- Full; a step with the flag set; the byte that is dropped, and the same edge with a pop; a reset edge. -/
theorem witness_DropSetsOnlyTheOverflowFlag :
    let drop := { fullAndCompleting with pre_d := 0, input := [⟨false, true⟩] }
    let kept := { fullAndCompleting with input := [⟨false, true⟩] }
    let reset := { fullAndCompleting with fifo_ovf := true, input := [⟨true, true⟩] }
    fullAndCompleting.count = fullAndCompleting.params.fifoDepth ∧
    ((pinsNow { drop with fifo_ovf := true }).rst = false ∧ ∃ t, step { drop with fifo_ovf := true } = .next t) ∧
    (Invariants drop ∧ drop.fifo_ovf = false ∧ ∃ t, step drop = .next t ∧ t.fifo_ovf = true) ∧
    (Invariants kept ∧ kept.fifo_ovf = false ∧ ∃ t, step kept = .next t ∧ t.fifo_ovf = false) ∧
    ((pinsNow reset).rst = true ∧ ∃ t, step reset = .next t ∧ t.fifo_ovf = false) :=
  ⟨rfl, ⟨rfl, _, rfl⟩, ⟨invariants_of_check legal_reference (by decide), rfl, _, rfl, rfl⟩,
    ⟨invariants_of_check legal_reference (by decide), rfl, _, rfl, rfl⟩, rfl, _, rfl, rfl⟩
theorem witness_PopRemovesTheOldest :
    Invariants (secondWaiting 0x00 0x21) ∧ (secondWaiting 0x00 0x21).count ≠ 0 := ⟨witness_secondWaiting, by decide⟩
/-- The first index that does not exist is 4. -/
theorem witness_MissingFifoIndexFaults :
    (let s := { State.reset with rd := 4, count := 1 }; s.params.fifoDepth ≤ s.rd ∧ s.count ≠ 0) ∧
    (let s := { State.reset with wr := 4 }; s.params.fifoDepth ≤ s.wr ∧ s.count ≠ s.params.fifoDepth) ∧
    Invariants idleLine := ⟨by decide, by decide, witness_idleLine⟩
/-- A pop frees the entry of a full FIFO; a push into an empty FIFO; into the last free entry; into a full FIFO. -/
theorem witness_PushAndPopInOneCycle :
    (Invariants fullAndCompleting ∧ sampleTick fullAndCompleting = true ∧ fullAndCompleting.s_state = .recv ∧
      fullAndCompleting.tcnt = 0 ∧ fullAndCompleting.bitn = 7 ∧ dispatchTick fullAndCompleting = true ∧
      fullAndCompleting.count ≠ 0) ∧
    (let s := { fullAndCompleting with mem := [], count := 0 }
    Invariants s ∧ dispatchTick s = true ∧ s.count < s.params.fifoDepth) ∧
    (let s := { roomAndCompleting with pre_s := 999 }
    Invariants s ∧ sampleTick s = true ∧ dispatchTick s = false ∧ s.count < s.params.fifoDepth) ∧
    (let s := { fullAndCompleting with pre_d := 0 }
    Invariants s ∧ sampleTick s = true ∧ dispatchTick s = false ∧ ¬s.count < s.params.fifoDepth) :=
  ⟨⟨witness_fullAndCompleting, by decide⟩, ⟨invariants_of_check legal_reference (by decide), by decide⟩,
    ⟨invariants_of_check legal_reference (by decide), by decide⟩,
    ⟨invariants_of_check legal_reference (by decide), by decide⟩⟩
theorem witness_AssemblerKeepsTheFirstByte :
    State.reset.count = 0 ∧
    (let s := { State.reset with rd := 3, count := 1 }
    s.count ≠ 0 ∧ s.await_first = true ∧ s.rd < s.params.fifoDepth) := by decide
theorem witness_SecondByteDispatchesTheFrame :
    let s := secondWaiting 0x00 0x21
    s.count ≠ 0 ∧ s.await_first = false ∧ s.rd < s.params.fifoDepth ∧ s.params.buttonRom = none := by decide
/-- A pair that is `Unknown`, and the pair that is `Idle`. -/
theorem witness_MisalignedListedCodesNeverDrive :
    (let s := secondWaiting 0x11 0x00
    s.params.buttonRom = none ∧ (0x0011 : KeyCode) ∈ listedCodes ∧ s.count ≠ 0 ∧ s.await_first = false ∧
      s.rd < s.params.fifoDepth ∧ s.stored = loByte 0x0011 ∧ Memory.read s.mem s.rd = hiByte 0x0011) ∧
    (let s := secondWaiting 0x00 0x00
    (0x0000 : KeyCode) ∈ listedCodes ∧ s.count ≠ 0 ∧ s.await_first = false ∧ s.rd < s.params.fifoDepth ∧
      s.stored = loByte 0x0000 ∧ Memory.read s.mem s.rd = hiByte 0x0021) := by decide
/-- 151 ms after the last event. -/
theorem witness_TimeoutStops :
    let s := { driving with now := 161 }
    s.d_state = .pressed ∧ s.params.timeout < elapsed s := by decide
/-- D_IDLE, and 150 ms after the last event. -/
theorem witness_HoldChangesNothing :
    State.reset.d_state = .idle ∧
    (let s := { driving with now := 160 }; s.d_state = .pressed ∧ elapsed s ≤ s.params.timeout) := by decide
theorem witness_ElapsedTimeSurvivesTheWrap :
    let s := { driving with last_act := 4294967295, now := 4294967294 }
    s.params.Legal ∧ s.last_act < 2 ^ s.params.timerWidth ∧ 4294967295 < 2 ^ s.params.timerWidth ∧
    s.now = (s.last_act + 4294967295) % 2 ^ s.params.timerWidth := ⟨legal_reference, by decide⟩
/-- A valid button event; D_IDLE without one; D_PRESSED without one, expired by 1 ms, and not expired by 0 ms. -/
theorem witness_DispatcherFollowsItsTable :
    (Invariants (secondWaiting 0x00 0x21) ∧ eventNow (secondWaiting 0x00 0x21) = some .left) ∧
    (Invariants idleLine ∧ idleLine.d_state = .idle ∧ eventNow idleLine = none) ∧
    (let s := { driving with now := 161 }
    Invariants s ∧ s.d_state = .pressed ∧ eventNow s = none ∧ s.params.timeout < elapsed s) ∧
    (let s := { driving with now := 160 }
    Invariants s ∧ s.d_state = .pressed ∧ eventNow s = none ∧ ¬s.params.timeout < elapsed s) :=
  ⟨⟨witness_secondWaiting, by decide⟩, ⟨witness_idleLine, by decide⟩,
    ⟨invariants_of_check legal_reference (by decide), by decide⟩,
    ⟨invariants_of_check legal_reference (by decide), by decide⟩⟩
theorem witness_IdleStaysIdleUntilAnEvent :
    Invariants idleLine ∧ idleLine.d_state = .idle ∧ idleLine.cmd_valid = false ∧
    noEventAlong [.ms, .disp, .sample false] idleLine ∧
    ∃ t, runAgents [.ms, .disp, .sample false] idleLine = .next t :=
  ⟨witness_idleLine, rfl, rfl, ⟨nofun, fun _ => rfl, nofun, trivial⟩, _, rfl⟩
/-- TIMEOUT = 0 (V-D6): one millisecond tick is more than it. -/
theorem witness_SilenceStopsTheRobot :
    let s := { driving with last_act := 100, params := { Config.reference with timeout := 0 } }
    Invariants s ∧ noEventAlong ([.ms] ++ [.disp]) s ∧ s.params.timeout < [AgentStep.ms].count .ms ∧
    elapsed s + [AgentStep.ms].count .ms < 2 ^ s.params.timerWidth :=
  ⟨invariants_of_check (by constructor <;> decide) (by decide), ⟨nofun, fun _ => rfl, trivial⟩, by decide, by decide⟩
theorem witness_WheelOperationsWriteOnePair :
    0 < wheelSpeed .left { State.reset with cmd_l := 1 } ∧
    wheelSpeed .left { State.reset with cmd_l := BitVec.ofInt 8 (-1) } < 0 ∧ wheelSpeed .left State.reset = 0 := by
  decide
theorem witness_ChannelsAreMutuallyExclusive : Invariants driving ∧ driving.params.scaleX100 = 65535 :=
  ⟨witness_driving, rfl⟩
theorem witness_PinIsHighForItsDuty : (65534 : BitVec 16).toNat ≤ 65534 := by decide
theorem witness_PrescalersCountModuloTheirDivisors :
    Invariants (atDispatch idleLine) ∧ (pinsNow (atDispatch idleLine)).rst = false ∧
    ∃ t, step (atDispatch idleLine) = .next t :=
  ⟨invariants_of_check legal_reference (by decide), rfl, _, rfl⟩
theorem witness_EdgePerformsTheAgentsInOrder : (pinsNow (atDispatch idleLine)).rst = false := rfl
theorem witness_StepRunsTheDecodedKeyCode :
    let s := atDispatch (secondWaiting 0x00 0x21)
    (pinsNow s).rst = false ∧ s.pre_d + 1 = s.params.dispDiv ∧ s.params.buttonRom = none ∧ s.count ≠ 0 ∧
    s.await_first = false ∧ s.rd < s.params.fifoDepth ∧
    decodeBytes [s.stored, Memory.read s.mem s.rd] = .ok (.left, []) ∧ Instr.left.wellFormed = true := by decide
theorem witness_StrobesTellWhatTheEdgeDid :
    Invariants (atDispatch (secondWaiting 0x00 0x21)) ∧ (pinsNow (atDispatch (secondWaiting 0x00 0x21))).rst = false ∧
    ∃ t, step (atDispatch (secondWaiting 0x00 0x21)) = .next t :=
  ⟨invariants_of_check legal_reference (by decide), rfl, _, rfl⟩
theorem witness_ResetBeatsEverything : (pinsNow { driving with input := [⟨true, false⟩] }).rst = true := rfl
theorem witness_EveryOperationKeepsTheInvariants : Invariants driving ∧ ∃ t, exec .mApply driving = .next t :=
  ⟨witness_driving, _, rfl⟩
theorem witness_EveryStepKeepsTheInvariants :
    Invariants (atDispatch driving) ∧ ∃ t, step (atDispatch driving) = .next t :=
  ⟨invariants_of_check legal_reference (by decide), _, rfl⟩
theorem witness_NoStepStops : Invariants driving := witness_driving
theorem witness_IdleMeansStopped :
    Invariants (atDispatch { driving with now := 161 }) ∧
    ∃ t, step (atDispatch { driving with now := 161 }) = .next t ∧ t.d_state = .idle :=
  ⟨invariants_of_check legal_reference (by decide), _, rfl, rfl⟩
/-- The longest dispatch period the rule allows, a byte held, and as many edges to the next push as to its pop. -/
theorem witness_FifoNeverOverflowsAtTheDispatchRate :
    let s := { secondWaiting 0x00 0x21 with
      params := { Config.reference with dispDiv := 69000 }, s_state := .hunt, input := [⟨false, true⟩] }
    Invariants s ∧ KeepsUp s ∧ edgesToDispatch s = edgesToPush s ∧
    s.params.dispDiv ≤ (s.params.startDelay + 57) * s.params.sampleDiv ∧ ∃ t, step s = .next t :=
  ⟨invariants_of_check (by constructor <;> decide) (by decide), ⟨by decide, fun _ => by decide⟩, by decide, by decide,
    _, rfl⟩
theorem witness_ParametersNeverChange :
    (∃ t, exec .mApply driving = .next t) ∧ ∃ t, step (atDispatch driving) = .next t := ⟨⟨_, rfl⟩, _, rfl⟩
theorem witness_DiagnosticsNeverInfluence :
    driving ≠ { driving with dbg_code := 0x1100, fifo_ovf := true } ∧
    withoutDiagnostics driving = withoutDiagnostics { driving with dbg_code := 0x1100, fifo_ovf := true } :=
  ⟨by decide, rfl⟩
theorem witness_TimelinesShareOnlyTheFifo :
    (∃ t, sampleStep true fullAndCompleting = .next t) ∧ ∃ t, dispatchStep fullAndCompleting = .next t :=
  ⟨⟨_, rfl⟩, _, rfl⟩

end Sys2Proof.Tests
end

section
/-! PROOF. The parameters are constants of the unit (00_scope R5): every operation keeps them, sequencing and ticks pass
that on, and so a whole clock edge keeps them. -/

namespace Sys2Proof.Machine

/-- A state that `f` completes with has the parameters of the state `f` was given. -/
def KeepsParams (f : State → Result) : Prop := ∀ ⦃s t : State⦄, f s = .next t → t.params = s.params

/-! ### The named updates the Laws do not give it for -/

@[simp] theorem setWheel_params (w : Wheel) (d : Duty × Duty) (s : State) : (setWheel w d s).params = s.params := by
  cases w <;> rfl

@[simp] theorem pressAndForward_params (name : ButtonName) (s : State) :
    (pressAndForward name s).params = s.params := by
  simp [pressAndForward, forward]

@[simp] theorem forcedStop_params (s : State) : (forcedStop s).params = s.params := by
  simp [forcedStop, forward]

@[simp] theorem resetEdge_params (s : State) : (resetEdge s).params = s.params := rfl

/-! ### Composition -/

theorem keepsParams_next {g : State → State} (hg : ∀ s, (g s).params = s.params) :
    KeepsParams fun s => .next (g s) := by
  rintro s _ ⟨⟩
  exact hg s

theorem KeepsParams.andThen {f g : State → Result} (hf : KeepsParams f) (hg : KeepsParams g) :
    KeepsParams fun s => andThen (f s) g := by
  intro s t h
  obtain ⟨m, hm, ht⟩ := andThen_eq_next.1 h
  exact (hg ht).trans (hf hm)

/-- An agent's turn keeps the parameters, whether or not its tick fires. -/
theorem KeepsParams.of_onTick {f : State → Result} (hf : KeepsParams f) {tick : Bool} {s t : State}
    (h : onTick tick f s = .next t) : t.params = s.params := by
  obtain ⟨-, ht⟩ | ⟨-, rfl⟩ := onTick_eq_next.1 h
  · exact hf ht
  · rfl

/-! ### The operations -/

/-- `FifoPush` drops or pushes, and neither writes a parameter (41_fifo R121, R122). -/
theorem keepsParams_fifoPush (b : Byte) : KeepsParams (fifoPush b) := by
  intro s t h
  obtain ⟨-, rfl⟩ | ⟨-, hpush⟩ := fifoPush_eq_next.1 h
  · rfl
  · obtain ⟨-, rfl⟩ := pushByte_eq_next.1 hpush
    rfl

/-- S.LAST writes sampler registers and then performs `FifoPush` (40_sampler R105). -/
theorem keepsParams_execSLast (rx : Bool) : KeepsParams (execSLast rx) := by
  intro s t h
  obtain ⟨-, hpush⟩ := execSLast_eq_next.1 h
  have hkept := keepsParams_fifoPush _ hpush
  exact hkept

theorem keepsParams_performKeyCode (code : KeyCode) : KeepsParams (performKeyCode code) := by
  intro s t h
  rw [performKeyCode_eq] at h
  cases h
  split
  · simp
  · rfl

/-- FA.SECOND performs the code's row on the completed frame (42_frame_decoder R137). -/
theorem keepsParams_execFaSecond : KeepsParams execFaSecond := by
  intro s t h
  obtain ⟨-, -, hrow⟩ := execFaSecond_eq_next.1 h
  simpa using keepsParams_performKeyCode _ hrow

theorem keepsParams_exec (i : Instr) : KeepsParams (exec i) := by
  intro s t h
  cases i with
  | up | down | left | right | rightStickUp | rightStickDown | rightStickLeft | rightStickRight
  | l1 | l2 | lt | r1 | r2 | rt => exact keepsParams_next (pressAndForward_params _) h
  | idle0000 | idle0001 | unknown | decode => exact keepsParams_next (fun _ => rfl) h
  | sHunt rx => obtain ⟨-, rfl⟩ := execSHunt_eq_next.1 h; rfl
  | sStart rx => obtain ⟨-, rfl⟩ := execSStart_eq_next.1 h; rfl
  | sWait rx => obtain ⟨-, rfl⟩ := execSWait_eq_next.1 h; rfl
  | sShift rx => obtain ⟨-, rfl⟩ := execSShift_eq_next.1 h; rfl
  | sLast rx => exact keepsParams_execSLast rx h
  | fPush b => obtain ⟨-, -, rfl⟩ := execFPush_eq_next.1 h; rfl
  | fDrop b => obtain ⟨-, rfl⟩ := (execFDrop_eq_next (b := b)).1 h; simp
  | fPop => obtain ⟨-, -, rfl⟩ := execFPop_eq_next.1 h; simp
  | bNone => obtain ⟨-, rfl⟩ := execBNone_eq_next.1 h; rfl
  | faFirst => obtain ⟨-, -, rfl⟩ := execFaFirst_eq_next.1 h; simp
  | faSecond => exact keepsParams_execFaSecond h
  | dTimeout => obtain ⟨-, rfl⟩ := execDTimeout_eq_next.1 h; simp
  | dHoldIdle => obtain ⟨-, rfl⟩ := execDHoldIdle_eq_next.1 h; rfl
  | dHoldPressed => obtain ⟨-, rfl⟩ := execDHoldPressed_eq_next.1 h; rfl
  | mFwd w => obtain ⟨-, rfl⟩ := execMFwd_eq_next.1 h; simp
  | mRev w => obtain ⟨-, rfl⟩ := execMRev_eq_next.1 h; simp
  | mStop w => obtain ⟨-, rfl⟩ := execMStop_eq_next.1 h; simp
  | press name => obtain ⟨-, rfl⟩ := execPress_eq_next.1 h; simp
  | mApply => exact keepsParams_next (fun s => applyCommand_params s.cmd_l s.cmd_r s) h
  | tMs | pStep => cases h; rfl
  | xSync rxPin => exact keepsParams_next (synced_params rxPin) h

/-! ### The agents and the clock edge -/

theorem keepsParams_sampleStep (rx : Bool) : KeepsParams (sampleStep rx) :=
  fun s _ h => keepsParams_exec (sampleOp rx s) h

/-- Phase 2 selects its operation in the state phase 1 leaves (43_dispatcher R150). -/
theorem keepsParams_dispatchStep : KeepsParams dispatchStep :=
  KeepsParams.andThen (fun s _ h => keepsParams_exec (byteOp s) h) fun s _ h => keepsParams_exec (timeoutOp s) h

theorem keepsParams_clkStep (rxPin : Bool) : KeepsParams (clkStep rxPin) := by
  intro s t h
  obtain ⟨a, b, c, d, ha, hb, hc, hd, rfl⟩ := clkStep_eq_next.1 h
  calc (advancePrescalers (synced rxPin d)).params
      _ = d.params := by simp
      _ = c.params := KeepsParams.of_onTick (keepsParams_exec .pStep) hd
      _ = b.params := KeepsParams.of_onTick (keepsParams_exec .tMs) hc
      _ = a.params := (keepsParams_sampleStep s.rx_sync).of_onTick hb
      _ = (clearStrobes s).params := keepsParams_dispatchStep.of_onTick ha
      _ = s.params := clearStrobes_params s

/-- A reset edge writes registers only: the parameters are none (00_scope R5, 70_reset R260). -/
theorem keepsParams_clockEdge : KeepsParams clockEdge := by
  intro s t h
  obtain ⟨-, rfl⟩ | ⟨-, u, hu, rfl⟩ := clockEdge_eq_next.1 h
  · simp
  · simpa using keepsParams_clkStep _ hu

/-- Settles O54: operation by operation, then along the parts of a clock edge. -/
theorem parametersNeverChange : Obligations.ParametersNeverChange :=
  ⟨fun i _ _ h => keepsParams_exec i h, fun _ _ h => keepsParams_clockEdge h⟩

end Sys2Proof.Machine
end

section
/-! PROOF. The invariants of 10_state R26: each named update of the state keeps them, so every operation does, so the parts
of a clock edge do; a reset edge meets them whatever came before. -/

namespace Sys2Proof.Machine

/-! ### The FIFO -/

theorem nextIndex_lt {s : State} (hl : s.params.Legal) (i : Nat) : nextIndex s i < s.params.fifoDepth :=
  Nat.mod_lt _ hl.fifoDepth.1

/-- A write below FIFO_DEPTH leaves the indices that do not exist unlisted (20_memory R57). -/
theorem read_write_domain {m : Memory} {depth a : Nat} (ha : a < depth)
    (h : ∀ x, depth ≤ x → Memory.read m x = Memory.unlisted) (v : Byte) :
    ∀ x, depth ≤ x → Memory.read (Memory.write m a v) x = Memory.unlisted := by
  intro x hx
  rw [Memory.read_write_other m (by omega : x ≠ a)]
  exact h x hx

theorem invariants_pushByte {s t : State} {b : Byte} (hs : Invariants s) (hroom : full s = false)
    (h : pushByte b s = .next t) : Invariants t := by
  obtain ⟨hwr, rfl⟩ := pushByte_eq_next.1 h
  have hne : s.count ≠ s.params.fifoDepth := by simpa [full] using hroom
  have hle := hs.countBound
  exact { hs with
    countBound := show s.count + 1 ≤ s.params.fifoDepth by omega
    wrFollows := show (s.wr + 1) % s.params.fifoDepth = (s.rd + (s.count + 1)) % s.params.fifoDepth by
      rw [hs.wrFollows, Nat.mod_add_mod, Nat.add_assoc]
    memWf := Memory.wf_write hs.memWf s.wr b
    memDomain := read_write_domain hwr hs.memDomain b }

theorem invariants_dropByte {s : State} (hs : Invariants s) : Invariants (dropByte s) := { hs with }

theorem invariants_fifoPush {s t : State} {b : Byte} (hs : Invariants s) (h : fifoPush b s = .next t) :
    Invariants t := by
  obtain ⟨-, rfl⟩ | ⟨hroom, hpush⟩ := fifoPush_eq_next.1 h
  · exact invariants_dropByte hs
  · exact invariants_pushByte hs hroom hpush

/-- A pop moves `rd` on by one and takes one off `count`, so `wr` still follows (41_fifo R123). -/
theorem invariants_popped {s : State} (hs : Invariants s) (hd : hasData s = true) : Invariants (popped s) := by
  have hne := (hasData_iff s).1 hd
  have hle := hs.countBound
  exact { hs with
    countBound := show s.count - 1 ≤ s.params.fifoDepth by omega
    rdBound := nextIndex_lt hs.legal s.rd
    wrFollows := show s.wr = ((s.rd + 1) % s.params.fifoDepth + (s.count - 1)) % s.params.fifoDepth by
      rw [Nat.mod_add_mod, hs.wrFollows, show s.rd + 1 + (s.count - 1) = s.rd + s.count by omega] }

/-! ### The sampler -/

/-- The start delay fits the 4 bits of `tcnt` (10_state R12). -/
theorem invariants_started {s : State} (hs : Invariants s) (rx : Bool) :
    Invariants { s with
      s_state := .recv, tcnt := BitVec.ofNat 4 (s.params.startDelay - 1), bitn := 0, prev := rx } := by
  have hdelay := hs.legal.startDelay
  exact { hs with
    tcntRange := fun _ => by
      show (BitVec.ofNat 4 (s.params.startDelay - 1)).toNat ≤ max s.params.startDelay Config.oversample - 1
      rw [BitVec.toNat_ofNat, Nat.mod_eq_of_lt (by omega)]
      omega }

theorem invariants_waited {s : State} (hs : Invariants s) (hrecv : s.s_state = .recv) (ht : s.tcnt ≠ 0) (rx : Bool) :
    Invariants { s with tcnt := s.tcnt - 1, prev := rx } := by
  have hle := hs.tcntRange hrecv
  have hdec : (s.tcnt - 1).toNat ≤ s.tcnt.toNat := by bv_omega
  exact { hs with tcntRange := fun _ => hdec.trans hle }

theorem invariants_shifted {s : State} (hs : Invariants s) (rx : Bool) :
    Invariants { s with
      shreg := shiftIn rx s.shreg, bitn := s.bitn + 1, tcnt := BitVec.ofNat 4 (Config.oversample - 1), prev := rx } :=
  { hs with tcntRange := fun _ => Nat.sub_le_sub_right (le_max_right s.params.startDelay Config.oversample) 1 }

/-- S.LAST is back in HUNT before it pushes the byte (40_sampler R105). -/
theorem invariants_completed {s : State} (hs : Invariants s) (rx : Bool) :
    Invariants { s with shreg := shiftIn rx s.shreg, s_state := .hunt, prev := rx } :=
  { hs with tcntRange := fun hrecv => nomatch hrecv }

/-! ### The frame assembler -/

theorem invariants_keepFirst {s : State} (hs : Invariants s) (b : Byte) : Invariants (keepFirst b s) := { hs with }

theorem invariants_completeFrame {s : State} (hs : Invariants s) (code : KeyCode) :
    Invariants (completeFrame code s) := { hs with }

/-! ### The motor channels -/

/-- M.APPLY makes the duties the function of the command that R26 (d) asks for (44_motor_driver R190). -/
theorem invariants_forward {s : State} (hs : Invariants s) : Invariants (forward s) :=
  { hs with dutyLeft := rfl, dutyRight := rfl }

theorem wheelDuty_of_pos {scale : Nat} {v : Int} (h : 0 < clamp v) : wheelDuty scale v = (dutyOf scale (clamp v), 0) := by
  simp [wheelDuty, h]

theorem wheelDuty_of_neg {scale : Nat} {v : Int} (h : clamp v < 0) : wheelDuty scale v = (0, dutyOf scale (clamp v)) := by
  simp [wheelDuty, h, h.le.not_gt]

theorem wheelDuty_of_zero {scale : Nat} {v : Int} (h : clamp v = 0) : wheelDuty scale v = (0, 0) := by
  simp [wheelDuty, h]

/-- Writing one wheel's duty pair keeps the invariants where the pair is that of the wheel's command (R26 (d)). -/
theorem invariants_setWheel {s : State} {w : Wheel} {d : Duty × Duty} (hs : Invariants s)
    (hd : wheelDuty s.params.scaleX100 (wheelCmd w s).toInt = d) : Invariants (setWheel w d s) := by
  cases w with
  | left => exact { hs with dutyLeft := hd.symm }
  | right => exact { hs with dutyRight := hd.symm }

/-! ### The dispatcher -/

/-- A command in range, forwarded with a dispatcher state that allows it, keeps the invariants (10_state R26 (b) to (d)). -/
theorem invariants_commanded {s : State} (hs : Invariants s) {d : DispatcherState} {act : Nat} {l r : Speed}
    (hact : act < 2 ^ s.params.timerWidth) (hl : -100 ≤ l.toInt ∧ l.toInt ≤ 100) (hr : -100 ≤ r.toInt ∧ r.toInt ≤ 100)
    (hidle : d = .idle → l = 0 ∧ r = 0) :
    Invariants (forward { s with last_act := act, d_state := d, cmd_l := l, cmd_r := r }) :=
  { hs with
    cmdLRange := hl, cmdRRange := hr, idleStopped := hidle, dutyLeft := rfl, dutyRight := rfl, lastRange := hact }

/-- A speed of the direction ROM is in range in its register too (10_state R26 (b)). -/
theorem toInt_toSpeed_range {v : Int} (h : -100 ≤ v ∧ v ≤ 100) : -100 ≤ (toSpeed v).toInt ∧ (toSpeed v).toInt ≤ 100 :=
  (toInt_toSpeed h).symm ▸ h

theorem invariants_pressAndForward {s : State} (hs : Invariants s) (name : ButtonName) :
    Invariants (pressAndForward name s) := by
  unfold pressAndForward recordPress
  split
  next l r hdir =>
    obtain ⟨hl, hr⟩ := dirRom_range hdir
    exact invariants_commanded hs hs.nowRange (toInt_toSpeed_range hl) (toInt_toSpeed_range hr) nofun
  next => exact invariants_commanded hs hs.nowRange hs.cmdLRange hs.cmdRRange nofun

/-- The stop command is in range (10_state R26 (b)). -/
theorem stop_range : -100 ≤ (0 : Speed).toInt ∧ (0 : Speed).toInt ≤ 100 := by decide

theorem invariants_forcedStop {s : State} (hs : Invariants s) : Invariants (forcedStop s) :=
  invariants_commanded hs hs.lastRange stop_range stop_range fun _ => ⟨rfl, rfl⟩

/-! ### The counters, the strobes and the ports -/

theorem invariants_counted {s : State} (hs : Invariants s) :
    Invariants { s with now := (s.now + 1) % 2 ^ s.params.timerWidth } :=
  { hs with nowRange := Nat.mod_lt _ (Nat.two_pow_pos _) }

theorem invariants_pwmStepped {s : State} (hs : Invariants s) :
    Invariants { s with pwm_cnt := BitVec.ofNat 16 ((s.pwm_cnt.toNat + 1) % Config.pwmPeriod) } :=
  have hmod : (s.pwm_cnt.toNat + 1) % Config.pwmPeriod < 65535 := Nat.mod_lt _ (by decide)
  { hs with pwmRange := (Nat.mod_le _ _).trans (Nat.le_of_lt_succ hmod) }

theorem invariants_synced {s : State} (hs : Invariants s) (rxPin : Bool) : Invariants (synced rxPin s) := { hs with }

theorem invariants_clearStrobes {s : State} (hs : Invariants s) : Invariants (clearStrobes s) := { hs with }

theorem invariants_consumeInput {s : State} (hs : Invariants s) : Invariants (consumeInput s) := { hs with }

/-- A prescaler restarts before it reaches its divisor (45_timebase_and_clock R210). -/
theorem nextPrescaler_lt {pre div : Nat} (h : pre < div) : nextPrescaler pre div < div := by
  simp only [nextPrescaler, fires_iff]
  split <;> omega

theorem invariants_advancePrescalers {s : State} (hs : Invariants s) : Invariants (advancePrescalers s) :=
  { hs with
    preSRange := nextPrescaler_lt hs.preSRange, preMsRange := nextPrescaler_lt hs.preMsRange
    preDRange := nextPrescaler_lt hs.preDRange, prePRange := nextPrescaler_lt hs.prePRange }

/-- The reset values meet the invariants at every legal choice of the parameters (10_state R27, 70_reset R260). -/
theorem invariants_resetEdge {s : State} (hl : s.params.Legal) : Invariants (resetEdge s) where
  legal := hl
  countBound := Nat.zero_le _
  rdBound := hl.fifoDepth.1
  wrFollows := (Nat.zero_mod _).symm
  memWf := Memory.wf_reset
  memDomain _ _ := rfl
  cmdLRange := stop_range
  cmdRRange := stop_range
  idleStopped _ := ⟨rfl, rfl⟩
  dutyLeft := rfl
  dutyRight := rfl
  tcntRange hrecv := nomatch hrecv
  pwmRange := Nat.zero_le _
  nowRange := Nat.two_pow_pos _
  lastRange := Nat.two_pow_pos _
  preSRange := hl.sampleDiv
  preMsRange := hl.msDiv
  preDRange := hl.dispDiv
  prePRange := hl.pwmDiv

/-- Settles O47: the reset state is a reset edge at the reference parameters, which are legal (00_scope R4). -/
theorem resetMeetsTheInvariants : Obligations.ResetMeetsTheInvariants :=
  invariants_resetEdge (s := State.reset) (by constructor <;> decide)

/-! ### The operations -/

/-- A state that `f` completes with meets the invariants where the state `f` was given does. -/
def KeepsInvariants (f : State → Result) : Prop := ∀ ⦃s t : State⦄, Invariants s → f s = .next t → Invariants t

theorem keepsInvariants_execSLast (rx : Bool) : KeepsInvariants (execSLast rx) := fun _ _ hs h =>
  invariants_fifoPush (invariants_completed hs rx) (execSLast_eq_next.1 h).2

theorem keepsInvariants_performKeyCode (code : KeyCode) : KeepsInvariants (performKeyCode code) := by
  intro s t hs h
  rw [performKeyCode_eq] at h
  cases h
  split
  · exact invariants_pressAndForward hs _
  · exact hs

/-- FA.SECOND pops, closes the frame and performs the code's row (42_frame_decoder R137). -/
theorem keepsInvariants_execFaSecond : KeepsInvariants execFaSecond := by
  intro s t hs h
  obtain ⟨⟨hdata, -⟩, -, hrow⟩ := execFaSecond_eq_next.1 h
  exact keepsInvariants_performKeyCode _ (invariants_completeFrame (invariants_popped hs hdata) _) hrow

theorem keepsInvariants_exec (i : Instr) : KeepsInvariants (exec i) := by
  intro s t hs h
  cases i with
  | up | down | left | right | rightStickUp | rightStickDown | rightStickLeft | rightStickRight
  | l1 | l2 | lt | r1 | r2 | rt => cases h; exact invariants_pressAndForward hs _
  | idle0000 | idle0001 | unknown | decode => cases h; exact hs
  | sHunt rx => obtain ⟨-, rfl⟩ := execSHunt_eq_next.1 h; exact { hs with }
  | sStart rx => obtain ⟨-, rfl⟩ := execSStart_eq_next.1 h; exact invariants_started hs rx
  | sWait rx => obtain ⟨⟨hrecv, ht⟩, rfl⟩ := execSWait_eq_next.1 h; exact invariants_waited hs hrecv ht rx
  | sShift rx => obtain ⟨-, rfl⟩ := execSShift_eq_next.1 h; exact invariants_shifted hs rx
  | sLast rx => exact keepsInvariants_execSLast rx hs h
  | fPush b =>
    obtain ⟨hroom, hpush⟩ := execFPush_eq_next.1 h
    exact invariants_pushByte hs hroom (pushByte_eq_next.2 hpush)
  | fDrop b => obtain ⟨-, rfl⟩ := (execFDrop_eq_next (b := b)).1 h; exact invariants_dropByte hs
  | fPop => obtain ⟨hdata, -, rfl⟩ := execFPop_eq_next.1 h; exact invariants_popped hs hdata
  | bNone => obtain ⟨-, rfl⟩ := execBNone_eq_next.1 h; exact hs
  | faFirst =>
    obtain ⟨⟨hdata, -⟩, -, rfl⟩ := execFaFirst_eq_next.1 h
    exact invariants_keepFirst (invariants_popped hs hdata) _
  | faSecond => exact keepsInvariants_execFaSecond hs h
  | dTimeout => obtain ⟨-, rfl⟩ := execDTimeout_eq_next.1 h; exact invariants_forcedStop hs
  | dHoldIdle => obtain ⟨-, rfl⟩ := execDHoldIdle_eq_next.1 h; exact hs
  | dHoldPressed => obtain ⟨-, rfl⟩ := execDHoldPressed_eq_next.1 h; exact hs
  | mFwd w => obtain ⟨hpos, rfl⟩ := execMFwd_eq_next.1 h; exact invariants_setWheel hs (wheelDuty_of_pos hpos)
  | mRev w => obtain ⟨hneg, rfl⟩ := execMRev_eq_next.1 h; exact invariants_setWheel hs (wheelDuty_of_neg hneg)
  | mStop w => obtain ⟨hzero, rfl⟩ := execMStop_eq_next.1 h; exact invariants_setWheel hs (wheelDuty_of_zero hzero)
  | press name => obtain ⟨-, rfl⟩ := execPress_eq_next.1 h; exact invariants_pressAndForward hs name
  | mApply => cases h; exact invariants_forward hs
  | tMs => cases h; exact invariants_counted hs
  | pStep => cases h; exact invariants_pwmStepped hs
  | xSync rxPin => cases h; exact invariants_synced hs rxPin

/-- Settles O48: operation by operation, each through what its update does to the registers of R26. -/
theorem everyOperationKeepsTheInvariants : Obligations.EveryOperationKeepsTheInvariants :=
  fun i _ _ hs h => keepsInvariants_exec i hs h

/-! ### The agents and the clock edge -/

/-- An agent's turn keeps the invariants, whether or not its tick fires. -/
theorem KeepsInvariants.of_onTick {f : State → Result} (hf : KeepsInvariants f) {tick : Bool} {s t : State}
    (hs : Invariants s) (h : onTick tick f s = .next t) : Invariants t := by
  obtain ⟨-, ht⟩ | ⟨-, rfl⟩ := onTick_eq_next.1 h
  · exact hf hs ht
  · exact hs

theorem keepsInvariants_sampleStep (rx : Bool) : KeepsInvariants (sampleStep rx) :=
  fun s _ hs h => keepsInvariants_exec (sampleOp rx s) hs h

/-- Phase 2 starts from a state that phase 1 kept good (43_dispatcher R150). -/
theorem keepsInvariants_dispatchStep : KeepsInvariants dispatchStep := by
  intro s t hs h
  obtain ⟨m, hbyte, htimeout⟩ := andThen_eq_next.1 h
  exact keepsInvariants_exec _ (keepsInvariants_exec _ hs hbyte) htimeout

/-- The invariants pass along the parts of `ClkStep` in their order (45_timebase_and_clock R212). -/
theorem keepsInvariants_clkStep (rxPin : Bool) : KeepsInvariants (clkStep rxPin) := by
  intro s t hs h
  obtain ⟨a, b, c, d, hdisp, hsample, hms, hpwm, rfl⟩ := clkStep_eq_next.1 h
  have ha : Invariants a := keepsInvariants_dispatchStep.of_onTick (invariants_clearStrobes hs) hdisp
  have hb : Invariants b := (keepsInvariants_sampleStep s.rx_sync).of_onTick ha hsample
  have hc : Invariants c := (keepsInvariants_exec .tMs).of_onTick hb hms
  have hd : Invariants d := (keepsInvariants_exec .pStep).of_onTick hc hpwm
  exact invariants_advancePrescalers (invariants_synced hd rxPin)

/-- Settles O49: a reset edge meets the invariants, and every part of a `ClkStep` keeps them. -/
theorem everyStepKeepsTheInvariants : Obligations.EveryStepKeepsTheInvariants := by
  intro s t hs h
  obtain ⟨-, rfl⟩ | ⟨-, u, hu, rfl⟩ := clockEdge_eq_next.1 h
  · exact invariants_consumeInput (invariants_resetEdge hs.legal)
  · exact invariants_consumeInput (keepsInvariants_clkStep _ hs hu)

end Sys2Proof.Machine
end

section
/-! PROOF. No functional rule reads the diagnostic registers, the strobes or the overflow flag (10_state R20, R22): every
operation answers the same, up to those registers, in the state without them; sequencing and ticks pass that on. -/

namespace Sys2Proof.Machine

/-- `f` answers the same, up to the diagnostics, where they are set to 0 before. -/
def IgnoresDiagnostics (f : State → Result) : Prop :=
  ∀ s, functionalPart (f (withoutDiagnostics s)) = functionalPart (f s)

/-- Two states that differ in the diagnostics only give results that differ in them only. -/
theorem IgnoresDiagnostics.congr {f : State → Result} (hf : IgnoresDiagnostics f) {s t : State}
    (h : withoutDiagnostics s = withoutDiagnostics t) : functionalPart (f s) = functionalPart (f t) := by
  rw [← hf s, ← hf t, h]

/-! ### Composition -/

theorem ignoresDiagnostics_next {g : State → State}
    (hg : ∀ s, withoutDiagnostics (g (withoutDiagnostics s)) = withoutDiagnostics (g s)) :
    IgnoresDiagnostics fun s => .next (g s) :=
  fun s => congrArg Host.Outcome.next (hg s)

/-- Results that agree up to the diagnostics are continued to results that do. -/
theorem functionalPart_andThen {r r' : Result} {f : State → Result} (hr : functionalPart r = functionalPart r')
    (hf : IgnoresDiagnostics f) : functionalPart (andThen r f) = functionalPart (andThen r' f) := by
  cases r <;> cases r' <;> try contradiction
  case next.next s t => exact hf.congr (Host.Outcome.next.inj hr)
  case fault.fault => exact hr
  case refused.refused => exact hr

theorem IgnoresDiagnostics.andThen {f g : State → Result} (hf : IgnoresDiagnostics f) (hg : IgnoresDiagnostics g) :
    IgnoresDiagnostics fun s => andThen (f s) g :=
  fun s => functionalPart_andThen (hf s) hg

theorem IgnoresDiagnostics.onTick {f : State → Result} (hf : IgnoresDiagnostics f) (tick : Bool) :
    IgnoresDiagnostics (onTick tick f) := by
  intro s
  cases tick with
  | true => exact hf s
  | false => rfl

/-- An operation ignores the diagnostics where its selection and its effect do. -/
theorem ignoresDiagnostics_whenSelected {sel : State → Bool} {f : State → Result}
    (hsel : ∀ s, sel (withoutDiagnostics s) = sel s) (hf : IgnoresDiagnostics f) :
    IgnoresDiagnostics fun s => whenSelected (sel s) s f := by
  intro s
  simp only [hsel s]
  cases sel s with
  | true => exact hf s
  | false => rfl

/-- So does one that the selected state leaves as one update. -/
theorem ignoresDiagnostics_update {sel : State → Bool} {g : State → State}
    (hsel : ∀ s, sel (withoutDiagnostics s) = sel s)
    (hg : ∀ s, withoutDiagnostics (g (withoutDiagnostics s)) = withoutDiagnostics (g s)) :
    IgnoresDiagnostics fun s => whenSelected (sel s) s fun s => .next (g s) :=
  ignoresDiagnostics_whenSelected hsel (ignoresDiagnostics_next hg)

/-! ### The operations -/

theorem ignoresDiagnostics_pushByte (b : Byte) : IgnoresDiagnostics (pushByte b) := by
  intro s
  show functionalPart (if s.wr < s.params.fifoDepth then _ else _) = functionalPart (if _ then _ else _)
  split <;> rfl

theorem ignoresDiagnostics_fifoPush (b : Byte) : IgnoresDiagnostics (fifoPush b) := by
  intro s
  have hfull : full (withoutDiagnostics s) = full s := rfl
  simp only [fifoPush, hfull]
  cases full s with
  | true => rfl
  | false => exact ignoresDiagnostics_pushByte b s

/-- A pop hands on the same byte, and a state that differs in the diagnostics only (41_fifo R123). -/
theorem ignoresDiagnostics_fifoPop {use : Byte → State → Result} (huse : ∀ b, IgnoresDiagnostics (use b)) :
    IgnoresDiagnostics fun s => fifoPop s use := by
  intro s
  show functionalPart (if s.rd < s.params.fifoDepth then use (Memory.read s.mem s.rd) (popped (withoutDiagnostics s))
    else _) = functionalPart (if _ then _ else _)
  split
  · exact (huse _).congr rfl
  · rfl

/-- A press reads the direction ROM, the time and the command, none of them a diagnostic (43_dispatcher R152). -/
theorem pressAndForward_withoutDiagnostics (name : ButtonName) (s : State) :
    withoutDiagnostics (pressAndForward name (withoutDiagnostics s)) = withoutDiagnostics (pressAndForward name s) := by
  have hparams : (withoutDiagnostics s).params = s.params := rfl
  simp only [pressAndForward, recordPress, hparams]
  cases dirRom s.params name <;> rfl

theorem ignoresDiagnostics_pressAndForward (name : ButtonName) :
    IgnoresDiagnostics fun s => .next (pressAndForward name s) :=
  ignoresDiagnostics_next (pressAndForward_withoutDiagnostics name)

theorem ignoresDiagnostics_performKeyCode (code : KeyCode) : IgnoresDiagnostics (performKeyCode code) := by
  intro s
  have hparams : (withoutDiagnostics s).params = s.params := rfl
  simp only [performKeyCode_eq, hparams]
  cases (romName s.params code).isEvent with
  | true => exact ignoresDiagnostics_pressAndForward _ s
  | false => rfl

/-- FA.SECOND writes the diagnostics and reads `stored` and the popped byte (42_frame_decoder R137, R141). -/
theorem ignoresDiagnostics_execFaSecond : IgnoresDiagnostics execFaSecond :=
  ignoresDiagnostics_whenSelected (fun _ => rfl) <| ignoresDiagnostics_fifoPop fun b s =>
    (ignoresDiagnostics_performKeyCode (keyCodeOf s.stored b)).congr rfl

theorem ignoresDiagnostics_execPress (name : ButtonName) : IgnoresDiagnostics (execPress name) := by
  intro s
  unfold execPress
  split
  · exact ignoresDiagnostics_pressAndForward name s
  · rfl

theorem ignoresDiagnostics_exec (i : Instr) : IgnoresDiagnostics (exec i) := by
  cases i with
  | up | down | left | right | rightStickUp | rightStickDown | rightStickLeft | rightStickRight
  | l1 | l2 | lt | r1 | r2 | rt => exact ignoresDiagnostics_pressAndForward _
  | idle0000 | idle0001 | unknown | decode => exact ignoresDiagnostics_next fun _ => rfl
  | sHunt | sStart | sWait | sShift => exact ignoresDiagnostics_update (fun _ => rfl) fun _ => rfl
  | sLast rx =>
    exact ignoresDiagnostics_whenSelected (fun _ => rfl) fun s =>
      (ignoresDiagnostics_fifoPush (shiftIn rx s.shreg)).congr rfl
  | fPush b => exact ignoresDiagnostics_whenSelected (fun _ => rfl) (ignoresDiagnostics_pushByte b)
  | fDrop => exact ignoresDiagnostics_update (fun _ => rfl) fun _ => rfl
  | fPop =>
    exact ignoresDiagnostics_whenSelected (fun _ => rfl) <|
      ignoresDiagnostics_fifoPop fun _ => ignoresDiagnostics_next fun _ => rfl
  | faFirst =>
    exact ignoresDiagnostics_whenSelected (fun _ => rfl) <|
      ignoresDiagnostics_fifoPop fun _ => ignoresDiagnostics_next fun _ => rfl
  | faSecond => exact ignoresDiagnostics_execFaSecond
  | bNone | dTimeout | dHoldIdle | dHoldPressed => exact ignoresDiagnostics_update (fun _ => rfl) fun _ => rfl
  | mFwd w | mRev w | mStop w => cases w <;> exact ignoresDiagnostics_update (fun _ => rfl) fun _ => rfl
  | press name => exact ignoresDiagnostics_execPress name
  | mApply | tMs | pStep | xSync => exact ignoresDiagnostics_next fun _ => rfl

/-! ### The agents and the clock edge -/

/-- The selector word of the sampler reads no diagnostic (30_encoding R82). -/
theorem ignoresDiagnostics_sampleStep (rx : Bool) : IgnoresDiagnostics (sampleStep rx) :=
  fun s => ignoresDiagnostics_exec (sampleOp rx s) s

/-- Nor do those of the two phases (30_encoding R82, 43_dispatcher R150). -/
theorem ignoresDiagnostics_dispatchStep : IgnoresDiagnostics dispatchStep :=
  IgnoresDiagnostics.andThen (fun s => ignoresDiagnostics_exec (byteOp s) s)
    fun s => ignoresDiagnostics_exec (timeoutOp s) s

/-- The ticks and the line value of a `ClkStep` are those before the edge, and no diagnostics
(45_timebase_and_clock R212). -/
theorem ignoresDiagnostics_clkStep (rxPin : Bool) : IgnoresDiagnostics (clkStep rxPin) := by
  intro s
  have hdisp : IgnoresDiagnostics (onTick (dispatchTick s) dispatchStep) := ignoresDiagnostics_dispatchStep.onTick _
  have hsample : IgnoresDiagnostics (onTick (sampleTick s) (sampleStep s.rx_sync)) :=
    (ignoresDiagnostics_sampleStep _).onTick _
  have hms : IgnoresDiagnostics (onTick (msTick s) msStep) := (ignoresDiagnostics_exec .tMs).onTick _
  have hpwm : IgnoresDiagnostics (onTick (pwmTick s) pwmStep) := (ignoresDiagnostics_exec .pStep).onTick _
  have hlast : IgnoresDiagnostics fun d => andThen (exec (.xSync rxPin) d) fun e => .next (advancePrescalers e) :=
    (ignoresDiagnostics_exec (.xSync rxPin)).andThen (ignoresDiagnostics_next fun _ => rfl)
  exact functionalPart_andThen (hdisp.congr rfl) (hsample.andThen (hms.andThen (hpwm.andThen hlast)))

/-- The levels of the input ports are no diagnostics (10_state R25). -/
theorem ignoresDiagnostics_clockEdge : IgnoresDiagnostics clockEdge := by
  intro s
  have hpins : pinsNow (withoutDiagnostics s) = pinsNow s := rfl
  simp only [clockEdge, hpins]
  cases (pinsNow s).rst with
  | true => rfl
  | false =>
    exact functionalPart_andThen (ignoresDiagnostics_clkStep _ s) (ignoresDiagnostics_next fun _ => rfl)

/-- Settles O55: both states step as the state without the diagnostics does. -/
theorem diagnosticsNeverInfluence : Obligations.DiagnosticsNeverInfluence :=
  fun _ _ h => ignoresDiagnostics_clockEdge.congr h

end Sys2Proof.Machine
end

section
/-! PROOF. The two strobes (10_state R20) are cleared at the start of an edge and pulsed by its dispatch step only, whose three
cases say when. -/

namespace Sys2Proof.Machine

/-! ### What a dispatch step assembles -/

theorem codeNow_of_empty {s : State} (h : s.count = 0) : codeNow s = none := by simp [codeNow, hasData, h]

theorem codeNow_of_first {s : State} (h : s.await_first = true) : codeNow s = none := by simp [codeNow, h]

theorem codeNow_of_second {s : State} (hd : s.count ≠ 0) (ha : s.await_first = false) :
    codeNow s = some (keyCodeOf s.stored (Memory.read s.mem s.rd)) := by simp [codeNow, hasData, hd, ha]

theorem eventNow_of_no_code {s : State} (h : codeNow s = none) : eventNow s = none := by simp [eventNow, h]

/-- A KeyCode is an event exactly where its name is (43_dispatcher R151). -/
theorem eventNow_isSome {s : State} {code : KeyCode} (h : codeNow s = some code) :
    (eventNow s).isSome = (romName s.params code).isEvent := by
  simp only [eventNow, h]
  cases (romName s.params code).isEvent <;> rfl

/-! ### The strobes after a dispatch step -/

/-- The release timeout passes in this state (10_state R22, 43_dispatcher R172). -/
theorem expired_iff (s : State) : expired s = true ↔ s.d_state = .pressed ∧ s.params.timeout < elapsed s := by
  rw [expired, Bool.and_eq_true, pressed_iff, timeUp_iff]

/-- A phase 1 with no event leaves the timeout of phase 2 as it was. -/
theorem expired_congr {s u : State} (hp : u.params = s.params) (hd : u.d_state = s.d_state) (hn : u.now = s.now)
    (hl : u.last_act = s.last_act) : expired u = expired s := by
  rw [expired, expired, pressed_congr hd, timeUp_congr hp hn hl]

/-- Phase 2 pulses `cmd_valid` where the timeout passes, and leaves `dbg_valid` alone (43_dispatcher R170, R171). -/
theorem timeout_strobes (u : State) :
    (if pressed u && timeUp u then forcedStop u else u).dbg_valid = u.dbg_valid ∧
    (if pressed u && timeUp u then forcedStop u else u).cmd_valid = (u.cmd_valid || expired u) := by
  show (if expired u then forcedStop u else u).dbg_valid = u.dbg_valid ∧
    (if expired u then forcedStop u else u).cmd_valid = (u.cmd_valid || expired u)
  cases expired u <;> simp

/-- From cleared strobes a dispatch step pulses `dbg_valid` where it assembles a KeyCode, and `cmd_valid` where it has an
event or a timeout (42_frame_decoder R141, 44_motor_driver R201). -/
theorem dispatchStep_strobes {s t : State} (hr : s.rd < s.params.fifoDepth) (hdbg : s.dbg_valid = false)
    (hcmd : s.cmd_valid = false) (h : dispatchStep s = .next t) :
    (t.dbg_valid = true ↔ (codeNow s).isSome = true) ∧
    (t.cmd_valid = true ↔ (eventNow s).isSome = true ∨ expired s = true) := by
  obtain ⟨u, -, hstep, hcases⟩ := dispatchStep_cases hr
  obtain rfl : (if pressed u && timeUp u then forcedStop u else u) = t := by
    rw [h] at hstep
    exact (Host.Outcome.next.inj hstep).symm
  obtain ⟨hdbgT, hcmdT⟩ := timeout_strobes u
  rw [hdbgT, hcmdT]
  obtain ⟨h0, rfl⟩ | ⟨h0, ha, rfl⟩ | ⟨h0, ha, code, hcode, rfl⟩ := hcases
  · have hnone := codeNow_of_empty h0
    simp [hnone, eventNow_of_no_code hnone, hdbg, hcmd]
  · have hnone := codeNow_of_first ha
    have hexp : expired (keepFirst (Memory.read s.mem s.rd) (popped s)) = expired s :=
      expired_congr (by simp) (by simp) (by simp) (by simp)
    simp [hnone, eventNow_of_no_code hnone, hexp, hdbg, hcmd]
  · have hsome : codeNow s = some code := hcode ▸ codeNow_of_second h0 ha
    rw [eventNow_isSome hsome, hsome]
    cases (romName s.params code).isEvent with
    | true => simp
    | false =>
      have hexp : expired (completeFrame code (popped s)) = expired s :=
        expired_congr (by simp) (by simp) (by simp) (by simp)
      simp [hexp, hcmd]

/-! ### The strobes along the rest of the edge -/

/-- A state that `f` completes with has the strobes of the state `f` was given. -/
def KeepsStrobes (f : State → Result) : Prop :=
  ∀ ⦃s t : State⦄, f s = .next t → t.dbg_valid = s.dbg_valid ∧ t.cmd_valid = s.cmd_valid

theorem keepsStrobes_fifoPush (b : Byte) : KeepsStrobes (fifoPush b) := by
  intro s t h
  obtain ⟨-, rfl⟩ | ⟨-, hpush⟩ := fifoPush_eq_next.1 h
  · exact ⟨rfl, rfl⟩
  · obtain ⟨-, rfl⟩ := pushByte_eq_next.1 hpush
    exact ⟨rfl, rfl⟩

theorem keepsStrobes_sampleStep (rx : Bool) : KeepsStrobes (sampleStep rx) := by
  intro s t h
  obtain ⟨-, -, rfl⟩ | ⟨-, -, rfl⟩ | ⟨-, -, rfl⟩ | ⟨-, -, -, rfl⟩ | ⟨-, -, -, hpush⟩ := sampleStep_cases h
  iterate 4 exact ⟨rfl, rfl⟩
  have hkept := keepsStrobes_fifoPush _ hpush
  exact hkept

theorem keepsStrobes_msStep : KeepsStrobes msStep := by
  rintro s _ ⟨⟩
  exact ⟨rfl, rfl⟩

theorem keepsStrobes_pwmStep : KeepsStrobes pwmStep := by
  rintro s _ ⟨⟩
  exact ⟨rfl, rfl⟩

theorem KeepsStrobes.onTick {f : State → Result} (hf : KeepsStrobes f) (tick : Bool) : KeepsStrobes (onTick tick f) := by
  intro s t h
  obtain ⟨-, ht⟩ | ⟨-, rfl⟩ := onTick_eq_next.1 h
  · exact hf ht
  · exact ⟨rfl, rfl⟩

/-- After a `ClkStep` the strobes are those its dispatch turn left (45_timebase_and_clock R212). -/
theorem clkStep_strobes {s t : State} {rxPin : Bool} (h : clkStep rxPin s = .next t) :
    ∃ a, onTick (dispatchTick s) dispatchStep (clearStrobes s) = .next a ∧
      t.dbg_valid = a.dbg_valid ∧ t.cmd_valid = a.cmd_valid := by
  obtain ⟨a, b, c, d, hdisp, hsample, hms, hpwm, rfl⟩ := clkStep_eq_next.1 h
  obtain ⟨hdbgB, hcmdB⟩ := (keepsStrobes_sampleStep s.rx_sync).onTick _ hsample
  obtain ⟨hdbgC, hcmdC⟩ := keepsStrobes_msStep.onTick _ hms
  obtain ⟨hdbgD, hcmdD⟩ := keepsStrobes_pwmStep.onTick _ hpwm
  exact ⟨a, hdisp, hdbgD.trans (hdbgC.trans hdbgB), hcmdD.trans (hcmdC.trans hcmdB)⟩

/-- Settles O45: the strobes are those of the dispatch turn, which begins with both cleared. -/
theorem strobesTellWhatTheEdgeDid : Obligations.StrobesTellWhatTheEdgeDid := by
  intro s t hs hrst h
  obtain ⟨hreset, -⟩ | ⟨-, u, hu, rfl⟩ := clockEdge_eq_next.1 h
  · simp [hrst] at hreset
  obtain ⟨a, hdisp, hdbg, hcmd⟩ := clkStep_strobes hu
  rw [consumeInput_dbg_valid, consumeInput_cmd_valid, hdbg, hcmd]
  obtain ⟨htick, hstep⟩ | ⟨htick, rfl⟩ := onTick_eq_next.1 hdisp
  · obtain ⟨hcode, hevent⟩ := dispatchStep_strobes (s := clearStrobes s) hs.rdBound rfl rfl hstep
    rw [expired_iff] at hevent
    exact ⟨hcode.trans (and_iff_right htick).symm, hevent.trans (and_iff_right htick).symm⟩
  · simp [htick]

end Sys2Proof.Machine
end

section
/-! PROOF. A FIFO index that does not exist (20_memory R57): F.POP and F.PUSH fault at it, and 10_state R26 rules it out. -/

namespace Sys2Proof.Machine

/-- A pop at a read index that does not exist faults, whatever uses the byte (20_memory R57). -/
theorem fifoPop_of_missing {s : State} (h : s.params.fifoDepth ≤ s.rd) (use : Byte → State → Result) :
    fifoPop s use = .fault .fifoIndexOutOfRange :=
  if_neg (Nat.not_lt.2 h)

/-- A push at a write index that does not exist faults (20_memory R57). -/
theorem pushByte_of_missing {s : State} (h : s.params.fifoDepth ≤ s.wr) (b : Byte) :
    pushByte b s = .fault .fifoIndexOutOfRange :=
  if_neg (Nat.not_lt.2 h)

/-- The write index exists: it is a remainder modulo FIFO_DEPTH (10_state R26 (a)). -/
theorem wr_lt_of_invariants {s : State} (hs : Invariants s) : s.wr < s.params.fifoDepth := by
  rw [hs.wrFollows]
  exact Nat.mod_lt _ hs.legal.fifoDepth.1

/-- Settles O23: the selected operation reaches its index check and fails it. -/
theorem missingFifoIndexFaults : Obligations.MissingFifoIndexFaults := by
  refine fun s b => ⟨fun hrd hcount => ?_, fun hwr hcount => ?_, fun hs => ⟨hs.rdBound, wr_lt_of_invariants hs⟩⟩
  · have hdata : hasData s = true := (hasData_iff s).2 hcount
    calc exec .fPop s
      _ = whenSelected (hasData s) s fun s => fifoPop s fun _ t => .next t := rfl
      _ = .fault .fifoIndexOutOfRange := by rw [hdata, whenSelected_true, fifoPop_of_missing hrd]
  · have hroom : full s = false := Bool.eq_false_iff.2 fun hfull => hcount ((full_iff s).1 hfull)
    calc exec (.fPush b) s
      _ = whenSelected (!full s) s (pushByte b) := rfl
      _ = .fault .fifoIndexOutOfRange := by rw [hroom, Bool.not_false, whenSelected_true, pushByte_of_missing hwr]

end Sys2Proof.Machine
end

section
/-! PROOF. The two timelines share the FIFO only (20_memory R60). Each step commutes with giving it other values of the
registers that are not its own: every operation it can select does, and sequencing passes that on. What a step writes
follows, at the state itself. -/

namespace Sys2Proof.Machine

/-- `f` works on the registers that `carry` takes from its first state: beside any other values of the rest it answers the
same, stops included, and leaves those values as they are. -/
def ActsWithin (carry : State → State → State) (f : State → Result) : Prop :=
  ∀ s u : State, f (carry s u) = andThen (f s) fun t => .next (carry t u)

/-! ### Composition -/

section
variable {carry : State → State → State}

theorem actsWithin_next {g : State → State} (hg : ∀ s u, g (carry s u) = carry (g s) u) :
    ActsWithin carry fun s => .next (g s) :=
  fun s u => congrArg Host.Outcome.next (hg s u)

theorem ActsWithin.andThen {f g : State → Result} (hf : ActsWithin carry f) (hg : ActsWithin carry g) :
    ActsWithin carry fun s => andThen (f s) g := by
  intro s u
  calc Machine.andThen (f (carry s u)) g
    _ = Machine.andThen (f s) fun t => g (carry t u) := by rw [hf s u, andThen_assoc]; rfl
    _ = Machine.andThen (f s) fun t => Machine.andThen (g t) fun v => .next (carry v u) := by simp only [hg _ u]
    _ = Machine.andThen (Machine.andThen (f s) g) fun v => .next (carry v u) := (andThen_assoc _ _ _).symm

/-- A choice between two operations, made by the registers that `carry` takes. -/
theorem ActsWithin.ite {f g : State → Result} (hf : ActsWithin carry f) (hg : ActsWithin carry g) (c : State → Prop)
    [DecidablePred c] (hc : ∀ s u, c (carry s u) ↔ c s) : ActsWithin carry fun s => if c s then f s else g s := by
  intro s u
  simp only [hc s u]
  split
  · exact hf s u
  · exact hg s u

/-- An operation acts within the registers that its selection reads and its effect acts within. -/
theorem actsWithin_whenSelected {sel : State → Bool} {f : State → Result} (hsel : ∀ s u, sel (carry s u) = sel s)
    (hf : ActsWithin carry f) : ActsWithin carry fun s => whenSelected (sel s) s f := by
  intro s u
  simp only [hsel s u]
  cases sel s with
  | true => exact hf s u
  | false => rfl

/-- So does one that the selected state leaves as one update. -/
theorem actsWithin_update {sel : State → Bool} {g : State → State} (hsel : ∀ s u, sel (carry s u) = sel s)
    (hg : ∀ s u, g (carry s u) = carry (g s) u) :
    ActsWithin carry fun s => whenSelected (sel s) s fun s => .next (g s) :=
  actsWithin_whenSelected hsel (actsWithin_next hg)

/-- A state that `f` completes with has its new values in the registers `carry` takes only. -/
theorem ActsWithin.eq_carry {f : State → Result} (hf : ActsWithin carry f) {s t : State} (hself : carry s s = s)
    (h : f s = .next t) : t = carry t s := by
  have hs := hf s s
  rw [hself, h] at hs
  exact Host.Outcome.next.inj hs

end

/-! ### The sampler -/

theorem actsWithin_pushByte (b : Byte) : ActsWithin withSamplerOf (pushByte b) := by
  intro s u
  show (if s.wr < s.params.fifoDepth then _ else _) = andThen (if _ then _ else _) _
  split <;> rfl

/-- `FifoPush` reads `count`, `wr` and FIFO_DEPTH, on the sampler's side (41_fifo R121, R122). -/
theorem actsWithin_fifoPush (b : Byte) : ActsWithin withSamplerOf (fifoPush b) := by
  intro s u
  have hfull : full (withSamplerOf s u) = full s := rfl
  simp only [fifoPush, hfull]
  cases full s with
  | true => rfl
  | false => exact actsWithin_pushByte b s u

theorem actsWithin_execSLast (rx : Bool) : ActsWithin withSamplerOf (execSLast rx) :=
  actsWithin_whenSelected (fun _ _ => rfl) fun s u =>
    actsWithin_fifoPush (shiftIn rx s.shreg) { s with shreg := shiftIn rx s.shreg, s_state := .hunt, prev := rx } u

/-- The sampler's state, the edge, `tcnt` and `bitn` select the operation (30_encoding R82), and each of the five works on
the sampler's side. -/
theorem actsWithin_sampleStep (rx : Bool) : ActsWithin withSamplerOf (sampleStep rx) := by
  have hhunt : ActsWithin withSamplerOf (execSHunt rx) := actsWithin_update (fun _ _ => rfl) fun _ _ => rfl
  have hstart : ActsWithin withSamplerOf (execSStart rx) := actsWithin_update (fun _ _ => rfl) fun _ _ => rfl
  have hwait : ActsWithin withSamplerOf (execSWait rx) := actsWithin_update (fun _ _ => rfl) fun _ _ => rfl
  have hshift : ActsWithin withSamplerOf (execSShift rx) := actsWithin_update (fun _ _ => rfl) fun _ _ => rfl
  have hbit := (actsWithin_execSLast rx).ite hshift (fun s => s.bitn = 7) fun _ _ => Iff.rfl
  intro s u
  simp only [sampleStep_eq, withSamplerOf_s_state]
  cases s.s_state with
  | hunt => exact hstart.ite hhunt (fun s => edge rx s = true) (fun _ _ => Iff.rfl) s u
  | recv => exact hbit.ite hwait (fun s => s.tcnt = 0) (fun _ _ => Iff.rfl) s u

/-- A byte is written at `wr` only (41_fifo R121, R122). -/
theorem fifoPush_read_other {b : Byte} {s t : State} (h : fifoPush b s = .next t) {a : Nat} (ha : a ≠ s.wr) :
    Memory.read t.mem a = Memory.read s.mem a := by
  obtain ⟨-, rfl⟩ | ⟨-, hpush⟩ := fifoPush_eq_next.1 h
  · rfl
  · obtain ⟨-, rfl⟩ := pushByte_eq_next.1 hpush
    exact Memory.read_write_other s.mem ha b

theorem sampleStep_read_other {s t : State} {rx : Bool} (h : sampleStep rx s = .next t) {a : Nat} (ha : a ≠ s.wr) :
    Memory.read t.mem a = Memory.read s.mem a := by
  obtain ⟨-, -, rfl⟩ | ⟨-, -, rfl⟩ | ⟨-, -, rfl⟩ | ⟨-, -, -, rfl⟩ | ⟨-, -, -, hpush⟩ := sampleStep_cases h
  iterate 4 rfl
  exact fifoPush_read_other hpush ha

/-- What a sample step can write (10_state R12, R13). -/
theorem sampleStep_frame {s t : State} {rx : Bool} (h : sampleStep rx s = .next t) :
    t = { s with
      s_state := t.s_state, prev := t.prev, tcnt := t.tcnt, bitn := t.bitn, shreg := t.shreg
      mem := t.mem, wr := t.wr, count := t.count, fifo_ovf := t.fifo_ovf } :=
  calc t
    _ = withSamplerOf t s := (actsWithin_sampleStep rx).eq_carry rfl h
    _ = _ := by rw [withSamplerOf, keepsParams_sampleStep rx h]

/-! ### The dispatch step -/

/-- A pop reads `mem`, `rd`, `count` and FIFO_DEPTH, on the dispatch step's side (41_fifo R123). -/
theorem actsWithin_fifoPop {use : Byte → State → Result} (huse : ∀ b, ActsWithin withDispatchOf (use b)) :
    ActsWithin withDispatchOf fun s => fifoPop s use := by
  intro s u
  show (if s.rd < s.params.fifoDepth then use (Memory.read s.mem s.rd) (withDispatchOf (popped s) u) else _) =
    andThen (if _ then _ else _) _
  split
  · exact huse _ (popped s) u
  · rfl

/-- A press reads the direction ROM, the time and the command (43_dispatcher R152). -/
theorem pressAndForward_withDispatchOf (name : ButtonName) (s u : State) :
    pressAndForward name (withDispatchOf s u) = withDispatchOf (pressAndForward name s) u := by
  simp only [pressAndForward, recordPress, withDispatchOf_params]
  cases dirRom s.params name <;> rfl

theorem actsWithin_performKeyCode (code : KeyCode) : ActsWithin withDispatchOf (performKeyCode code) := by
  intro s u
  rw [performKeyCode_eq, performKeyCode_eq, withDispatchOf_params]
  by_cases hevent : (romName s.params code).isEvent = true
  · rw [if_pos hevent, if_pos hevent, pressAndForward_withDispatchOf, andThen_next]
  · rw [if_neg hevent, if_neg hevent, andThen_next]

theorem actsWithin_execFaFirst : ActsWithin withDispatchOf execFaFirst :=
  actsWithin_whenSelected (fun _ _ => rfl) <| actsWithin_fifoPop fun _ => actsWithin_next fun _ _ => rfl

/-- FA.SECOND joins `stored` to the popped byte and performs the code's row on the completed frame (42_frame_decoder R137). -/
theorem actsWithin_execFaSecond : ActsWithin withDispatchOf execFaSecond :=
  actsWithin_whenSelected (fun _ _ => rfl) <| actsWithin_fifoPop fun b s u =>
    actsWithin_performKeyCode (keyCodeOf s.stored b) (completeFrame (keyCodeOf s.stored b) s) u

/-- `count` and `await_first` select the operation of phase 1 (30_encoding R82). -/
theorem actsWithin_phase1 : ActsWithin withDispatchOf fun s => exec (byteOp s) s := by
  have hnone : ActsWithin withDispatchOf execBNone := actsWithin_update (fun _ _ => rfl) fun _ _ => rfl
  have hpair := actsWithin_execFaFirst.ite actsWithin_execFaSecond (fun s => s.await_first = true)
    fun _ _ => Iff.rfl
  simp only [exec_byteOp]
  exact hpair.ite hnone (fun s => hasData s = true) fun _ _ => Iff.rfl

/-- `d_state`, the time and the activity time select that of phase 2 (30_encoding R82, 43_dispatcher R172). -/
theorem actsWithin_phase2 : ActsWithin withDispatchOf fun s => exec (timeoutOp s) s := by
  intro s u
  have hexpired : (pressed (withDispatchOf s u) && timeUp (withDispatchOf s u)) = (pressed s && timeUp s) := rfl
  simp only [exec_timeoutOp, hexpired]
  split <;> rfl

theorem actsWithin_dispatchStep : ActsWithin withDispatchOf dispatchStep :=
  actsWithin_phase1.andThen actsWithin_phase2

/-- A press writes neither the storage nor the time (43_dispatcher R152). -/
theorem pressAndForward_mem_now (name : ButtonName) (s : State) :
    (pressAndForward name s).mem = s.mem ∧ (pressAndForward name s).now = s.now := by
  simp [pressAndForward, forward]

/-- The dispatch step reads the storage and the time, and writes neither (10_state R13, R17). -/
theorem dispatchStep_mem_now {s t : State} (h : dispatchStep s = .next t) : t.mem = s.mem ∧ t.now = s.now := by
  obtain ⟨u, hbyte, htimeout⟩ := andThen_eq_next.1 h
  have hphase1 : u.mem = s.mem ∧ u.now = s.now := by
    rw [exec_byteOp] at hbyte
    split at hbyte
    · split at hbyte
      · obtain ⟨-, -, rfl⟩ := execFaFirst_eq_next.1 hbyte
        simp
      · obtain ⟨-, -, hrow⟩ := execFaSecond_eq_next.1 hbyte
        rw [performKeyCode_eq] at hrow
        cases hrow
        split
        · exact pressAndForward_mem_now _ _
        · simp
    · obtain ⟨-, rfl⟩ := execBNone_eq_next.1 hbyte
      simp
  rw [exec_timeoutOp] at htimeout
  cases htimeout
  split
  · simpa [forcedStop, forward] using hphase1
  · exact hphase1

/-- What a dispatch step can write (10_state R13 to R16, R20). -/
theorem dispatchStep_frame {s t : State} (h : dispatchStep s = .next t) :
    t = { s with
      rd := t.rd, count := t.count, await_first := t.await_first, stored := t.stored
      d_state := t.d_state, last_act := t.last_act, cmd_l := t.cmd_l, cmd_r := t.cmd_r
      duty_lf := t.duty_lf, duty_lr := t.duty_lr, duty_rf := t.duty_rf, duty_rr := t.duty_rr
      dbg_code := t.dbg_code, dbg_name := t.dbg_name, dbg_valid := t.dbg_valid, cmd_valid := t.cmd_valid } := by
  obtain ⟨hmem, hnow⟩ := dispatchStep_mem_now h
  calc t
    _ = withDispatchOf t s := actsWithin_dispatchStep.eq_carry rfl h
    _ = _ := by rw [withDispatchOf, hmem, hnow, keepsParams_dispatchStep h]

/-- Settles O56: each step acts within its own registers and the FIFO, and writes no others. -/
theorem timelinesShareOnlyTheFifo : Obligations.TimelinesShareOnlyTheFifo :=
  ⟨fun _ _ _ h => ⟨sampleStep_frame h, fun _ ha => sampleStep_read_other h ha⟩, fun _ _ h => dispatchStep_frame h,
    fun s u rx => actsWithin_sampleStep rx s u, actsWithin_dispatchStep⟩

end Sys2Proof.Machine
end

section
/-! PROOF. Decoder and encoder (spec 30_encoding R73 to R83): each format accepts well-formed operations only, and the two
directions are inverse to each other. -/

namespace Sys2Proof

/-! ### The KeyCode format -/

/-- Every KeyCode has its row: a listed code an operation without operand, another one `Unknown` of itself (R75, R76). -/
theorem decodeKeyCode_wellFormed (code : KeyCode) : (decodeKeyCode code).wellFormed = true := by
  obtain hlisted | ⟨hfree, hname⟩ := listed_or_unknown code
  · exact forall_listed (P := fun code => (decodeKeyCode code).wellFormed = true) (by decide) hlisted
  · simp [decodeKeyCode, hname, keyCodeRow, Instr.wellFormed, hfree]

/-- The row of a KeyCode determines all 16 of its bits (R75, R76). -/
theorem encode_decodeKeyCode (code : KeyCode) : encode (decodeKeyCode code) = .keycode code := by
  obtain hlisted | ⟨-, hname⟩ := listed_or_unknown code
  · exact forall_listed (P := fun code => encode (decodeKeyCode code) = .keycode code) (by decide) hlisted
  · simp only [decodeKeyCode, hname, keyCodeRow, encode]

theorem encodeBytes_of_keycode {i : Instr} {code : KeyCode} (h : encode i = .keycode code) :
    encodeBytes i = some [hiByte code, loByte code] := by
  simp only [encodeBytes, h]

/-- The number of a KeyCode: the first byte is the high one, and the two fields do not overlap (R73). -/
theorem toNat_keyCodeOf (hi lo : Byte) : (keyCodeOf hi lo).toNat = 256 * hi.toNat + lo.toNat := by
  have hhi : (hi.setWidth 16 <<< 8).toNat = hi.toNat <<< 8 := by
    rw [BitVec.toNat_shiftLeft, BitVec.toNat_setWidth_of_le (by decide), Nat.shiftLeft_eq]
    omega
  have hlo : (lo.setWidth 16).toNat = lo.toNat := BitVec.toNat_setWidth_of_le (by decide)
  rw [keyCodeOf, BitVec.toNat_or, hhi, hlo, ← Nat.shiftLeft_add_eq_or_of_lt lo.isLt, Nat.shiftLeft_eq]
  omega

/-! ### The selector formats -/

/-- A word that selects S.START has `edge` = 1, so its line value is low (R82). -/
theorem decodeSsel_wellFormed {sel : Sel4} {rx : Bool} (h : (sel.getLsbD 2 && rx) = false) :
    (decodeSsel sel rx).wellFormed = true := by
  unfold decodeSsel
  split
  · (repeat' split) <;> rfl
  · split
    next hedge => simpa [hedge, Instr.wellFormed] using h
    next => rfl

theorem decodePsel_wellFormed (sel : Sel1) (b : Byte) : (decodePsel sel b).wellFormed = true := by
  unfold decodePsel
  split <;> rfl

theorem decodeBsel_wellFormed (sel : Sel2) : (decodeBsel sel).wellFormed = true := by
  unfold decodeBsel
  (repeat' split) <;> rfl

theorem decodeTsel_wellFormed (sel : Sel2) : (decodeTsel sel).wellFormed = true := by
  unfold decodeTsel
  (repeat' split) <;> rfl

theorem decodeWsel_wellFormed (sel : Sel2) (w : Wheel) : (decodeWsel sel w).wellFormed = true := by
  unfold decodeWsel
  (repeat' split) <;> rfl

/-- Of the rows without a selector, PRESS alone is refused for some operand (43_dispatcher R151). -/
theorem decode_always_wellFormed {row : AlwaysRow} {i : Instr} (h : decode (.always row) = .ok i) :
    i.wellFormed = true := by
  cases row with
  | press name =>
    simp only [decode] at h
    split at h
    next hevent => cases h; exact hevent
    next => cases h
  | decode | mApply | tMs | pStep | xSync => cases h; rfl

/-! ### The obligations -/

/-- Settles O3, format by format. -/
theorem decodedOperationsAreWellFormed : Obligations.DecodedOperationsAreWellFormed := by
  intro w i h
  cases w with
  | keycode code => cases h; exact decodeKeyCode_wellFormed code
  | ssel sel rx =>
    simp only [decode] at h
    split at h
    next => cases h
    next hline => cases h; exact decodeSsel_wellFormed (Bool.eq_false_iff.2 hline)
  | psel sel b => cases h; exact decodePsel_wellFormed sel b
  | bsel sel => cases h; exact decodeBsel_wellFormed sel
  | pop sel =>
    simp only [decode] at h
    split at h <;> cases h
    rfl
  | tsel sel => cases h; exact decodeTsel_wellFormed sel
  | wsel sel w => cases h; exact decodeWsel_wellFormed sel w
  | always row => exact decode_always_wellFormed h

/-- Settles O2: the round trip of each constructor. -/
theorem decodeGivesBackEveryEncodedOperation : Obligations.DecodeGivesBackEveryEncodedOperation
  | .up => Laws.Roundtrip.up
  | .down => Laws.Roundtrip.down
  | .left => Laws.Roundtrip.left
  | .right => Laws.Roundtrip.right
  | .rightStickUp => Laws.Roundtrip.rightStickUp
  | .rightStickDown => Laws.Roundtrip.rightStickDown
  | .rightStickLeft => Laws.Roundtrip.rightStickLeft
  | .rightStickRight => Laws.Roundtrip.rightStickRight
  | .l1 => Laws.Roundtrip.l1
  | .l2 => Laws.Roundtrip.l2
  | .lt => Laws.Roundtrip.lt
  | .r1 => Laws.Roundtrip.r1
  | .r2 => Laws.Roundtrip.r2
  | .rt => Laws.Roundtrip.rt
  | .idle0000 => Laws.Roundtrip.idle0000
  | .idle0001 => Laws.Roundtrip.idle0001
  | .unknown code => Laws.Roundtrip.unknown code
  | .sHunt rx => Laws.Roundtrip.sHunt rx
  | .sStart rx => Laws.Roundtrip.sStart rx
  | .sWait rx => Laws.Roundtrip.sWait rx
  | .sShift rx => Laws.Roundtrip.sShift rx
  | .sLast rx => Laws.Roundtrip.sLast rx
  | .fPush b => Laws.Roundtrip.fPush b
  | .fDrop b => Laws.Roundtrip.fDrop b
  | .fPop => Laws.Roundtrip.fPop
  | .bNone => Laws.Roundtrip.bNone
  | .faFirst => Laws.Roundtrip.faFirst
  | .faSecond => Laws.Roundtrip.faSecond
  | .dTimeout => Laws.Roundtrip.dTimeout
  | .dHoldIdle => Laws.Roundtrip.dHoldIdle
  | .dHoldPressed => Laws.Roundtrip.dHoldPressed
  | .mFwd w => Laws.Roundtrip.mFwd w
  | .mRev w => Laws.Roundtrip.mRev w
  | .mStop w => Laws.Roundtrip.mStop w
  | .decode code => Laws.Roundtrip.decode code
  | .press name => Laws.Roundtrip.press name
  | .mApply => Laws.Roundtrip.mApply
  | .tMs => Laws.Roundtrip.tMs
  | .pStep => Laws.Roundtrip.pStep
  | .xSync rxPin => Laws.Roundtrip.xSync rxPin

/-- Settles O4: the row is the one the two bytes decode to. -/
theorem keyCodesAreTotalAndLossless : Obligations.KeyCodesAreTotalAndLossless := by
  intro hi lo
  have hcode := encode_decodeKeyCode (keyCodeOf hi lo)
  have hbytes : encodeBytes (decodeKeyCode (keyCodeOf hi lo)) = some [hi, lo] := by
    simpa using encodeBytes_of_keycode hcode
  exact ⟨⟨_, rfl, decodeKeyCode_wellFormed _, hbytes, hcode⟩, toNat_keyCodeOf hi lo⟩

/-- Settles O1: nine words written out, each looked up in the tables. -/
theorem writtenWordsDecode : Obligations.WrittenWordsDecode :=
  ⟨rfl, rfl, rfl, rfl, rfl, rfl, rfl, rfl, rfl⟩

end Sys2Proof
end

section
/-! PROOF. One reception (spec 40_sampler R102 to R109): the start delay, eight payload bits eight ticks apart, one
`FifoPush`; and the wire format of a byte (30_encoding R70) holds each bit where the reception samples it. -/

namespace Sys2Proof.Machine

/-! ### Consecutive sample ticks -/

theorem sampleSteps_nil (s : State) : sampleSteps [] s = .next s := rfl

theorem sampleSteps_cons (rx : Bool) (line : List Bool) (s : State) :
    sampleSteps (rx :: line) s = andThen (sampleStep rx s) (sampleSteps line) := rfl

theorem sampleSteps_singleton (rx : Bool) (s : State) : sampleSteps [rx] s = sampleStep rx s := by
  rw [sampleSteps_cons]
  cases sampleStep rx s <;> rfl

theorem sampleSteps_append (line rest : List Bool) (s : State) :
    sampleSteps (line ++ rest) s = andThen (sampleSteps line s) (sampleSteps rest) := by
  induction line generalizing s with
  | nil => rfl
  | cons rx line ih =>
    rw [List.cons_append, sampleSteps_cons, sampleSteps_cons, andThen_assoc]
    exact congrArg _ (funext ih)

/-- The last level of a line, the first part of which gives the fallback of the second. -/
theorem getLastD_append {α : Type} (l m : List α) (a : α) : (l ++ m).getLastD a = m.getLastD (l.getLastD a) := by
  induction l generalizing a with
  | nil => rfl
  | cons x l ih => rw [List.cons_append, List.getLastD_cons, List.getLastD_cons, ih]

theorem getLastD_drop_take {α : Type} (l : List α) (n : Nat) (a : α) :
    (l.drop n).getLastD ((l.take n).getLastD a) = l.getLastD a := by
  rw [← getLastD_append, List.take_append_drop]

/-! ### The sampler in HUNT -/

/-- In HUNT a line that stays at its level changes nothing (40_sampler R101). -/
theorem sampleStep_of_steady {s : State} (hs : s.s_state = .hunt) : sampleStep s.prev s = .next s := by
  have hedge : edge s.prev s = false := by cases hprev : s.prev <;> simp [edge, hprev]
  simp only [sampleStep_eq, hs, hedge, Bool.false_eq_true, if_false]
  exact execSHunt_eq_next.2 ⟨⟨hs, hedge⟩, rfl⟩

theorem sampleSteps_of_steady {s : State} (hs : s.s_state = .hunt) (n : Nat) :
    sampleSteps (List.replicate n s.prev) s = .next s := by
  induction n with
  | zero => rfl
  | succ n ih => rw [List.replicate_succ, sampleSteps_cons, sampleStep_of_steady hs, andThen_next, ih]

/-! ### The sampler inside a reception -/

/-- RECV with the sampler's other registers at the given values (10_state R12). -/
def receiving (tcnt : BitVec 4) (bitn : BitVec 3) (shreg : Byte) (prev : Bool) (s : State) : State :=
  { s with s_state := .recv, tcnt := tcnt, bitn := bitn, shreg := shreg, prev := prev }

/-- HUNT after the last bit of `b`: `tcnt` and `bitn` stay as that bit found them (40_sampler R105). -/
def received (b : Byte) (prev : Bool) (s : State) : State :=
  { s with s_state := .hunt, tcnt := 0, bitn := 7, shreg := b, prev := prev }

/-- The falling edge (40_sampler R102). -/
theorem sampleStep_of_edge {s : State} (hs : s.s_state = .hunt) (hprev : s.prev = true) :
    sampleStep false s = .next (receiving (BitVec.ofNat 4 (s.params.startDelay - 1)) 0 s.shreg false s) := by
  have hedge : edge false s = true := by simp [edge, hprev]
  simp only [sampleStep_eq, hs, hedge, if_true]
  exact execSStart_eq_next.2 ⟨⟨hs, hedge⟩, rfl⟩

section
variable (t : BitVec 4) (k : BitVec 3) (v : Byte) (p rx : Bool) (s : State)

/-- A tick of waiting (40_sampler R103). -/
theorem sampleStep_receiving_wait {t : BitVec 4} (ht : t ≠ 0) :
    sampleStep rx (receiving t k v p s) = .next (receiving (t - 1) k v rx s) := by
  rw [sampleStep_eq]
  exact (if_neg ht).trans (execSWait_eq_next.2 ⟨⟨rfl, ht⟩, rfl⟩)

/-- A payload bit other than the last (40_sampler R104). -/
theorem sampleStep_receiving_bit {k : BitVec 3} (hk : k ≠ 7) :
    sampleStep rx (receiving 0 k v p s) = .next (receiving 7 (k + 1) (shiftIn rx v) rx s) := by
  rw [sampleStep_eq]
  exact (if_neg hk).trans (execSShift_eq_next.2 ⟨⟨rfl, rfl, hk⟩, rfl⟩)

/-- The last payload bit (40_sampler R105). -/
theorem sampleStep_receiving_last :
    sampleStep rx (receiving 0 7 v p s) = fifoPush (shiftIn rx v) (received (shiftIn rx v) rx s) := by
  rw [sampleStep_eq]
  rfl

/-- The ticks that `tcnt` counts only track the line (40_sampler R103). -/
theorem sampleSteps_receiving_wait {levels : List Bool} (hlen : levels.length = t.toNat) :
    sampleSteps levels (receiving t k v p s) = .next (receiving 0 k v (levels.getLastD p) s) := by
  induction levels generalizing t p with
  | nil =>
    obtain rfl : t = 0 := BitVec.eq_of_toNat_eq hlen.symm
    rfl
  | cons rx levels ih =>
    rw [List.length_cons] at hlen
    have ht : t ≠ 0 := by bv_omega
    have hleft : levels.length = (t - 1).toNat := by bv_omega
    rw [sampleSteps_cons, sampleStep_receiving_wait k v p rx s ht, andThen_next, ih _ _ hleft, List.getLastD_cons]

/-- Whatever the line does while `tcnt` counts down, the next operation sees its levels from there on (40_sampler R103). -/
theorem sampleSteps_receiving_drop {levels : List Bool} (hlen : t.toNat ≤ levels.length) :
    sampleSteps levels (receiving t k v p s) =
      sampleSteps (levels.drop t.toNat) (receiving 0 k v ((levels.take t.toNat).getLastD p) s) := by
  conv_lhs => rw [← List.take_append_drop t.toNat levels, sampleSteps_append,
    sampleSteps_receiving_wait t k v p s (List.length_take_of_le hlen), andThen_next]

/-- With `n` bits still to follow, the next level and every eighth after it enter the byte, the older bits move down, and
the last tick pushes the byte (40_sampler R104, R105). -/
theorem sampleSteps_receiving_payload {n : Nat} {levels : List Bool} (hk : k.toNat + n = 7)
    (hlen : levels.length = 8 * n + 1) :
    ∃ b, sampleSteps levels (receiving 0 k v p s) = fifoPush b (received b (levels.getLastD p) s) ∧
      ∀ j < 8, some (b.getLsbD j) =
        if j + n < 7 then some (v.getLsbD (j + n + 1)) else levels[8 * (j + n - 7)]? := by
  induction n generalizing k v p levels with
  | zero =>
    obtain ⟨rx, rfl⟩ := List.length_eq_one_iff.1 hlen
    obtain rfl : k = 7 := BitVec.eq_of_toNat_eq hk
    refine ⟨shiftIn rx v, ?_, fun j hj => ?_⟩
    · rw [sampleSteps_singleton, sampleStep_receiving_last]
      rfl
    · rw [getLsbD_shiftIn]
      obtain rfl | hj7 : j = 7 ∨ j < 7 := by omega
      · simp
      · simp [hj7, hj7.ne]
  | succ n ih =>
    obtain ⟨rx, rest, rfl⟩ := List.exists_cons_of_length_eq_add_one hlen
    rw [List.length_cons] at hlen
    have hk7 : k ≠ 7 := by bv_omega
    have hnext : (k + 1).toNat + n = 7 := by bv_omega
    obtain ⟨b, hsteps, hbits⟩ := ih (k + 1) (shiftIn rx v) ((rest.take 7).getLastD rx) (levels := rest.drop 7) hnext
      (by rw [List.length_drop]; omega)
    refine ⟨b, ?_, fun j hj => ?_⟩
    · have hwait := sampleSteps_receiving_drop 7 (k + 1) (shiftIn rx v) rx s (levels := rest) (show 7 ≤ _ by omega)
      rw [sampleSteps_cons, sampleStep_receiving_bit v p rx s hk7, andThen_next, hwait]
      exact hsteps.trans (by rw [getLastD_drop_take, List.getLastD_cons])
    · rw [hbits j hj, getLsbD_shiftIn]
      obtain hlt | heq | hgt : j + n + 1 < 7 ∨ j + n + 1 = 7 ∨ 7 ≤ j + n := by omega
      · rw [if_pos (by omega), if_neg (by omega), if_pos (by omega), Nat.add_assoc j n 1]
      · rw [if_pos (by omega), if_pos heq, if_neg (by omega), ← Nat.add_assoc, heq]
        rfl
      · rw [if_neg (by omega), if_neg (by omega), List.getElem?_drop,
          show 8 * (j + (n + 1) - 7) = 7 + 8 * (j + n - 7) + 1 by omega, List.getElem?_cons_succ]

end

/-- From a falling edge on, START_DELAY + 56 further levels are one whole reception, whatever they are: one `FifoPush`, of
the byte whose bit `k` is the level at tick START_DELAY + 8k (40_sampler R109). -/
theorem sampleSteps_reception {s : State} (hl : s.params.Legal) (hs : s.s_state = .hunt) (hprev : s.prev = true)
    {levels : List Bool} (hlen : levels.length = s.params.startDelay + 56) :
    ∃ b, sampleSteps (false :: levels) s = fifoPush b (received b (levels.getLastD false) s) ∧
      ∀ k < 8, some (b.getLsbD k) = (false :: levels)[s.params.startDelay + 8 * k]? := by
  obtain ⟨hdelay1, hdelay16⟩ := hl.startDelay
  have htcnt : (BitVec.ofNat 4 (s.params.startDelay - 1)).toNat = s.params.startDelay - 1 := by
    rw [BitVec.toNat_ofNat, Nat.mod_eq_of_lt (by omega)]
  obtain ⟨b, hpayload, hbits⟩ := sampleSteps_receiving_payload 0 s.shreg
    ((levels.take (s.params.startDelay - 1)).getLastD false) s (n := 7)
    (levels := levels.drop (s.params.startDelay - 1)) rfl (by rw [List.length_drop]; omega)
  refine ⟨b, ?_, fun k hk => ?_⟩
  · rw [sampleSteps_cons, sampleStep_of_edge hs hprev, andThen_next,
      sampleSteps_receiving_drop _ 0 s.shreg false s (by omega), htcnt, hpayload, getLastD_drop_take]
  · rw [hbits k hk, if_neg (by omega), List.getElem?_drop, Nat.add_sub_cancel,
      show s.params.startDelay + 8 * k = s.params.startDelay - 1 + 8 * k + 1 by omega, List.getElem?_cons_succ]

/-! ### The byte in the FIFO -/

/-- A push writes the entry after the last one held, which is none of those held while there is room (41_fifo R120, R121). -/
theorem fifoContents_push {s : State} (hs : Invariants s) (hroom : s.count < s.params.fifoDepth) (b : Byte) :
    fifoContents { s with mem := Memory.write s.mem s.wr b, wr := nextIndex s s.wr, count := s.count + 1 } =
      fifoContents s ++ [b] := by
  have hheld : ∀ k ∈ List.range s.count,
      Memory.read (Memory.write s.mem s.wr b) ((s.rd + k) % s.params.fifoDepth) =
        Memory.read s.mem ((s.rd + k) % s.params.fifoDepth) := by
    intro k hk
    have hlt : k < s.count := List.mem_range.1 hk
    refine Memory.read_write_other s.mem (fun heq => ?_) b
    have hmod : k % s.params.fifoDepth = s.count % s.params.fifoDepth :=
      Nat.ModEq.add_left_cancel' s.rd (heq.trans hs.wrFollows)
    rw [Nat.mod_eq_of_lt (hlt.trans hroom), Nat.mod_eq_of_lt hroom] at hmod
    exact hlt.ne hmod
  have hnew : Memory.read (Memory.write s.mem s.wr b) ((s.rd + s.count) % s.params.fifoDepth) = b := by
    rw [← hs.wrFollows, Memory.read_write_same hs.memWf]
  simp only [fifoContents, List.range_succ, List.map_append, List.map_congr_left hheld, List.map_cons, List.map_nil, hnew]

/-- With room the byte is pushed, not dropped (41_fifo R121, R122). -/
theorem fifoPush_of_room {s : State} (hs : Invariants s) (hroom : s.count < s.params.fifoDepth) (b : Byte) :
    fifoPush b s =
      .next { s with mem := Memory.write s.mem s.wr b, wr := nextIndex s s.wr, count := s.count + 1 } := by
  have hfull : full s = false := Bool.eq_false_iff.2 fun hfull => hroom.ne ((full_iff s).1 hfull)
  exact fifoPush_eq_next.2 (.inr ⟨hfull, pushByte_eq_next.2 ⟨wr_lt_of_invariants hs, rfl⟩⟩)

/-- In HUNT no register of the sampler is bounded (10_state R26 (g)). -/
theorem invariants_received {s : State} (hs : Invariants s) (b : Byte) (prev : Bool) :
    Invariants (received b prev s) :=
  { hs with tcntRange := fun hrecv => nomatch hrecv }

/-! ### The wire format -/

/-- Each interval of the wire format is eight levels long (30_encoding R70): level `i` is that of interval `i / 8`. -/
theorem getElem?_flatMap_replicate {α : Type} (l : List α) {n : Nat} (hn : 0 < n) (i : Nat) :
    (l.flatMap (List.replicate n))[i]? = l[i / n]? := by
  induction l generalizing i with
  | nil => simp
  | cons a l ih =>
    rw [List.flatMap_cons]
    obtain hi | hi := Nat.lt_or_ge i n
    · rw [List.getElem?_append_left (by simpa using hi), List.getElem?_replicate_of_lt hi, Nat.div_eq_of_lt hi]
      rfl
    · rw [List.getElem?_append_right (by simpa using hi), List.length_replicate, ih, Nat.div_eq_sub_div hn hi]
      rfl

/-- The tick that samples payload bit `k` after a start delay of 12 lies in the interval of that bit (40_sampler R109). -/
theorem wireByte_at_bit (b : Byte) {k : Nat} (hk : k < 8) : (wireByte b)[12 + 8 * k]? = some (b.getLsbD k) := by
  rw [wireByte, getElem?_flatMap_replicate _ (by decide), show (12 + 8 * k) / Config.oversample = k + 1 by
    unfold Config.oversample; omega]
  simp [wireIntervals, Config.payloadBits, hk]

/-- The levels of a byte from the tick after its falling edge to the one that samples its last bit. -/
def wireReception (b : Byte) : List Bool := (wireByte b).tail.take 68

/-- The rest of the last interval stays at bit 7 (30_encoding R70). -/
theorem wireByte_eq (b : Byte) : wireByte b = (false :: wireReception b) ++ List.replicate 3 (b.getLsbD 7) := rfl

theorem length_wireReception (b : Byte) : (wireReception b).length = 68 := rfl

theorem getLastD_wireReception (b : Byte) (rx : Bool) : (wireReception b).getLastD rx = b.getLsbD 7 := rfl

/-- A reception of the wire format of `b` takes `b` (40_sampler R109). -/
theorem sampleSteps_wireReception {s : State} (hl : s.params.Legal) (hdelay : s.params.startDelay = 12)
    (hs : s.s_state = .hunt) (hprev : s.prev = true) (b : Byte) :
    sampleSteps (false :: wireReception b) s = fifoPush b (received b (b.getLsbD 7) s) := by
  obtain ⟨c, hsteps, hbits⟩ := sampleSteps_reception hl hs hprev (levels := wireReception b) (by
    rw [length_wireReception, hdelay])
  have hc : c = b := by
    refine BitVec.eq_of_getLsbD_eq fun k hk => Option.some.inj ?_
    rw [hbits k hk, hdelay, ← wireByte_at_bit b hk, wireByte_eq, List.getElem?_append_left (by
      rw [List.length_cons, length_wireReception]; omega)]
  rw [hsteps, hc, getLastD_wireReception]

/-- Settles O6: one reception, the push of its byte, and three more ticks of a line that stays at bit 7. -/
theorem wireByteIsReceived : Obligations.WireByteIsReceived := by
  intro s b hs hdelay hhunt hprev hroom
  have hr := invariants_received hs b (b.getLsbD 7)
  refine ⟨_, ?_, fifoContents_push hr hroom b, rfl, rfl, rfl, rfl⟩
  rw [wireByte_eq, sampleSteps_append, sampleSteps_wireReception hs.legal hdelay hhunt hprev,
    fifoPush_of_room hr hroom, andThen_next]
  exact sampleSteps_of_steady rfl 3

end Sys2Proof.Machine
end

section
/-! PROOF. An operation of a selector format is refused exactly where it is not the one its selector word chooses (spec
30_encoding R82, R83; log 6): its effect is never refused, and its guard is the condition its selector word states. -/

namespace Sys2Proof.Machine

/-! ### A guarded operation is refused by its guard only -/

theorem whenSelected_eq_notSelected {b : Bool} {s : State} {f : State → Result} (hf : f s ≠ .refused .notSelected) :
    whenSelected b s f = .refused .notSelected ↔ b = false := by
  cases b <;> simp [hf]

theorem next_ne_refused (s : State) (e : Refusal) : (.next s : Result) ≠ .refused e := nofun

theorem pushByte_ne_refused (b : Byte) (s : State) (e : Refusal) : pushByte b s ≠ .refused e := by
  unfold pushByte
  split <;> nofun

theorem fifoPush_ne_refused (b : Byte) (s : State) (e : Refusal) : fifoPush b s ≠ .refused e := by
  unfold fifoPush
  split
  · exact next_ne_refused _ e
  · exact pushByte_ne_refused b s e

theorem fifoPop_ne_refused {s : State} {use : Byte → State → Result} {e : Refusal}
    (huse : ∀ b t, use b t ≠ .refused e) : fifoPop s use ≠ .refused e := by
  unfold fifoPop
  split
  · exact huse _ _
  · nofun

theorem performKeyCode_ne_refused (code : KeyCode) (s : State) (e : Refusal) : performKeyCode code s ≠ .refused e := by
  rw [performKeyCode_eq]
  exact next_ne_refused _ e

/-! ### Each operation, by its guard -/

section
variable (rx : Bool) (b : Byte) (w : Wheel) (s : State)

theorem exec_sHunt_refused : exec (.sHunt rx) s = .refused .notSelected ↔ (s.s_state == .hunt && !edge rx s) = false :=
  whenSelected_eq_notSelected (next_ne_refused _ _)

theorem exec_sStart_refused : exec (.sStart rx) s = .refused .notSelected ↔ (s.s_state == .hunt && edge rx s) = false :=
  whenSelected_eq_notSelected (next_ne_refused _ _)

theorem exec_sWait_refused : exec (.sWait rx) s = .refused .notSelected ↔ (s.s_state == .recv && s.tcnt != 0) = false :=
  whenSelected_eq_notSelected (next_ne_refused _ _)

theorem exec_sShift_refused :
    exec (.sShift rx) s = .refused .notSelected ↔ (s.s_state == .recv && s.tcnt == 0 && s.bitn != 7) = false :=
  whenSelected_eq_notSelected (next_ne_refused _ _)

theorem exec_sLast_refused :
    exec (.sLast rx) s = .refused .notSelected ↔ (s.s_state == .recv && s.tcnt == 0 && s.bitn == 7) = false :=
  whenSelected_eq_notSelected (fifoPush_ne_refused _ _ _)

theorem exec_fPush_refused : exec (.fPush b) s = .refused .notSelected ↔ (!full s) = false :=
  whenSelected_eq_notSelected (pushByte_ne_refused _ _ _)

theorem exec_fDrop_refused : exec (.fDrop b) s = .refused .notSelected ↔ full s = false :=
  whenSelected_eq_notSelected (next_ne_refused _ _)

theorem exec_fPop_refused : exec .fPop s = .refused .notSelected ↔ hasData s = false := by
  rw [exec, execFPop, whenSelected_eq_notSelected (fifoPop_ne_refused fun _ _ => next_ne_refused _ _)]

theorem exec_bNone_refused : exec .bNone s = .refused .notSelected ↔ (!hasData s) = false :=
  whenSelected_eq_notSelected (next_ne_refused _ _)

theorem exec_faFirst_refused : exec .faFirst s = .refused .notSelected ↔ (hasData s && s.await_first) = false := by
  rw [exec, execFaFirst, whenSelected_eq_notSelected (fifoPop_ne_refused fun _ _ => next_ne_refused _ _)]

theorem exec_faSecond_refused : exec .faSecond s = .refused .notSelected ↔ (hasData s && !s.await_first) = false := by
  rw [exec, execFaSecond, whenSelected_eq_notSelected (fifoPop_ne_refused fun _ _ => performKeyCode_ne_refused _ _ _)]

theorem exec_dTimeout_refused : exec .dTimeout s = .refused .notSelected ↔ (pressed s && timeUp s) = false :=
  whenSelected_eq_notSelected (next_ne_refused _ _)

theorem exec_dHoldIdle_refused : exec .dHoldIdle s = .refused .notSelected ↔ (!pressed s) = false :=
  whenSelected_eq_notSelected (next_ne_refused _ _)

theorem exec_dHoldPressed_refused : exec .dHoldPressed s = .refused .notSelected ↔ (pressed s && !timeUp s) = false :=
  whenSelected_eq_notSelected (next_ne_refused _ _)

theorem exec_mFwd_refused : exec (.mFwd w) s = .refused .notSelected ↔ decide (wheelSpeed w s > 0) = false :=
  whenSelected_eq_notSelected (next_ne_refused _ _)

theorem exec_mRev_refused : exec (.mRev w) s = .refused .notSelected ↔ decide (wheelSpeed w s < 0) = false :=
  whenSelected_eq_notSelected (next_ne_refused _ _)

theorem exec_mStop_refused : exec (.mStop w) s = .refused .notSelected ↔ decide (wheelSpeed w s = 0) = false :=
  whenSelected_eq_notSelected (next_ne_refused _ _)

/-! ### Each selector format: in every case of the selector word, one operation is not refused -/

theorem sampleOps_refused_iff : ∀ i ∈ [Instr.sHunt rx, .sStart rx, .sWait rx, .sShift rx, .sLast rx],
    exec i s = .refused .notSelected ↔ i ≠ sampleOp rx s := by
  simp only [List.forall_mem_cons, exec_sHunt_refused, exec_sStart_refused, exec_sWait_refused, exec_sShift_refused,
    exec_sLast_refused, sampleOp_eq]
  cases s.s_state with
  | hunt => cases edge rx s <;> simp
  | recv =>
    by_cases ht : s.tcnt = 0#4
    · by_cases hb : s.bitn = 7#3 <;> simp [ht, hb]
    · simp [ht]

theorem pushOps_refused_iff : ∀ i ∈ [Instr.fPush b, .fDrop b],
    exec i s = .refused .notSelected ↔ i ≠ decodePsel (pselOf s) b := by
  simp only [List.forall_mem_cons, exec_fPush_refused, exec_fDrop_refused, decodePsel_pselOf]
  cases full s <;> simp

theorem byteOps_refused_iff : ∀ i ∈ [Instr.bNone, .faFirst, .faSecond],
    exec i s = .refused .notSelected ↔ i ≠ byteOp s := by
  simp only [List.forall_mem_cons, exec_bNone_refused, exec_faFirst_refused, exec_faSecond_refused, byteOp_eq]
  cases hasData s with
  | false => simp
  | true => cases s.await_first <;> simp

theorem timeoutOps_refused_iff : ∀ i ∈ [Instr.dTimeout, .dHoldIdle, .dHoldPressed],
    exec i s = .refused .notSelected ↔ i ≠ timeoutOp s := by
  simp only [List.forall_mem_cons, exec_dTimeout_refused, exec_dHoldIdle_refused, exec_dHoldPressed_refused,
    timeoutOp_eq]
  cases pressed s with
  | false => simp
  | true => cases timeUp s <;> simp

theorem wheelOps_refused_iff : ∀ i ∈ [Instr.mFwd w, .mRev w, .mStop w],
    exec i s = .refused .notSelected ↔ i ≠ decodeWsel (wselOf w s) w := by
  simp only [List.forall_mem_cons, exec_mFwd_refused, exec_mRev_refused, exec_mStop_refused, decodeWsel_wselOf]
  obtain hneg | hzero | hpos := lt_trichotomy (wheelSpeed w s) 0
  · simp [hneg, hneg.ne, hneg.not_gt]
  · simp [hzero]
  · simp [hpos, hpos.ne', hpos.not_gt]

end

/-- Settles O57, format by format; F.POP has the empty FIFO as its only other case. -/
theorem onlyTheSelectedOperationRuns : Obligations.OnlyTheSelectedOperationRuns := by
  intro s rx b w
  have hpop : exec .fPop s = .refused .notSelected ↔ s.count = 0 := by
    rw [exec_fPop_refused, Bool.eq_false_iff, Ne, hasData_iff, not_not]
  exact ⟨sampleOps_refused_iff rx s, pushOps_refused_iff b s, byteOps_refused_iff s, hpop, timeoutOps_refused_iff s,
    wheelOps_refused_iff w s⟩

end Sys2Proof.Machine
end

section
/-! PROOF. The sampler's operations and the input synchroniser (spec 40_sampler R101 to R110): the one sample operation
that completes is the one the sample step performs, and its meaning is the next state. -/

namespace Sys2Proof.Machine

/-! ### The sample step and its operation -/

/-- A sample operation that completes is the one the selector word chooses, every other one being refused (40_sampler R100,
log 6). -/
theorem sampleStep_of_completes {s t : State} {rx : Bool} {i : Instr}
    (hi : i ∈ [Instr.sHunt rx, .sStart rx, .sWait rx, .sShift rx, .sLast rx]) (h : exec i s = .next t) :
    sampleStep rx s = exec i s := by
  have hsel : i = sampleOp rx s := by
    by_contra hne
    exact next_ne_refused t _ (h.symm.trans ((sampleOps_refused_iff rx s i hi).2 hne))
  rw [hsel]
  rfl

/-- A falling edge is a low sample after a high one (40_sampler R106). -/
theorem edge_iff (rx : Bool) (s : State) : edge rx s = true ↔ s.prev = true ∧ rx = false := by simp [edge]

/-! ### What the operations leave in the registers -/

/-- The start delay fits the 4 bits of `tcnt` (10_state R12). -/
theorem toNat_startCount {p : Config.Params} (hl : p.Legal) :
    (BitVec.ofNat 4 (p.startDelay - 1)).toNat = p.startDelay - 1 := by
  have hdelay := hl.startDelay
  rw [BitVec.toNat_ofNat, Nat.mod_eq_of_lt (by omega)]

theorem getLsbD_shiftIn_seven (rx : Bool) (v : Byte) : (shiftIn rx v).getLsbD 7 = rx := getLsbD_shiftIn rx v 7

theorem getLsbD_shiftIn_lower (rx : Bool) (v : Byte) : ∀ k < 7, (shiftIn rx v).getLsbD k = v.getLsbD (k + 1) :=
  fun k hk => (getLsbD_shiftIn rx v k).trans (if_neg hk.ne)

/-- Without room the byte is dropped (41_fifo R122). -/
theorem fifoPush_of_full {s : State} (hfull : s.count = s.params.fifoDepth) (b : Byte) :
    fifoPush b s = .next (dropByte s) :=
  fifoPush_eq_next.2 (.inl ⟨(full_iff s).2 hfull, rfl⟩)

/-- The state in which S.LAST pushes its byte (40_sampler R105). -/
def completed (rx : Bool) (s : State) : State :=
  { s with shreg := shiftIn rx s.shreg, s_state := .hunt, prev := rx }

/-- S.LAST where it is selected: `FifoPush` of the completed byte (40_sampler R105). -/
theorem exec_sLast_of_last {s : State} (hrecv : s.s_state = .recv) (htcnt : s.tcnt = 0) (hbitn : s.bitn = 7)
    (rx : Bool) : exec (.sLast rx) s = fifoPush (shiftIn rx s.shreg) (completed rx s) :=
  if_pos (by simp [hrecv, htcnt, hbitn])

/-! ### The obligations -/

/-- Settles O17: one reception, and its byte is pushed, since there is room. -/
theorem receptionTakesItsBitsAtTheirInstants : Obligations.ReceptionTakesItsBitsAtTheirInstants := by
  intro s line hs hhunt hprev hroom hlen
  obtain ⟨b, hsteps, hbits⟩ := sampleSteps_reception hs.legal hhunt hprev hlen
  have hr := invariants_received hs b (line.getLastD false)
  refine ⟨_, b, ?_, hbits, fifoContents_push hr hroom b, rfl, rfl, rfl⟩
  rw [hsteps, fifoPush_of_room hr hroom]

/-- Settles O15: S.SHIFT is selected below bit 7, so the bit index does not wrap. -/
theorem shiftTakesOnePayloadBit : Obligations.ShiftTakesOnePayloadBit := by
  intro s rx hrecv htcnt hbitn
  have hshift := (execSShift_eq_next (rx := rx)).2 ⟨⟨hrecv, htcnt, hbitn⟩, rfl⟩
  have hnext : (s.bitn + 1).toNat = s.bitn.toNat + 1 := by bv_omega
  exact ⟨sampleStep_of_completes (by simp) hshift, _, hshift, getLsbD_shiftIn_seven rx _, getLsbD_shiftIn_lower rx _,
    hnext, rfl, rfl⟩

/-- Settles O16: the byte goes to a FIFO that is full or has room, in a state back in HUNT. -/
theorem lastBitPushesTheByte : Obligations.LastBitPushesTheByte := by
  intro s rx hs hrecv htcnt hbitn
  have hlast := exec_sLast_of_last hrecv htcnt hbitn rx
  by_cases hfull : s.count = s.params.fifoDepth
  · rw [fifoPush_of_full (s := completed rx s) hfull] at hlast
    exact ⟨sampleStep_of_completes (by simp) hlast, _, hlast, getLsbD_shiftIn_seven rx _, getLsbD_shiftIn_lower rx _,
      fun hroom => absurd hfull hroom, fun _ => rfl⟩
  · have hroom : s.count < s.params.fifoDepth := hs.countBound.lt_of_ne hfull
    rw [fifoPush_of_room (s := completed rx s) (invariants_completed hs rx) hroom] at hlast
    exact ⟨sampleStep_of_completes (by simp) hlast, _, hlast, getLsbD_shiftIn_seven rx _, getLsbD_shiftIn_lower rx _,
      fun _ => ⟨rfl, Memory.read_write hs.memWf s.wr _⟩, fun h => absurd h hfull⟩

/-- Settles O18: a line at the level of `prev` leaves HUNT as it is. -/
theorem lowLineNeverStarts : Obligations.LowLineNeverStarts := by
  intro s n hhunt hprev
  have hsteady := sampleSteps_of_steady hhunt n
  rwa [hprev] at hsteady

/-- Settles O12: S.HUNT is the operation of a line without a falling edge. -/
theorem huntOnlyTracksTheLine : Obligations.HuntOnlyTracksTheLine := by
  intro s rx hhunt hnot
  have hedge : edge rx s = false := Bool.eq_false_iff.2 (mt (edge_iff rx s).1 hnot)
  have hstay := execSHunt_eq_next.2 ⟨⟨hhunt, hedge⟩, rfl⟩
  exact ⟨hstay, sampleStep_of_completes (by simp) hstay⟩

/-- Settles O13: S.START is the operation of a falling edge, and a legal start delay loads as it is. -/
theorem fallingEdgeStartsReception : Obligations.FallingEdgeStartsReception := by
  intro s hl hhunt hprev
  have hstart := execSStart_eq_next.2 ⟨⟨hhunt, (edge_iff false s).2 ⟨hprev, rfl⟩⟩, rfl⟩
  exact ⟨sampleStep_of_completes (by simp) hstart, _, hstart, toNat_startCount hl, rfl⟩

/-- Settles O14: a count that is not 0 goes down by one without borrowing. -/
theorem waitCountsDown : Obligations.WaitCountsDown := by
  intro s rx hrecv htcnt
  have hwait := (execSWait_eq_next (rx := rx)).2 ⟨⟨hrecv, htcnt⟩, rfl⟩
  have hdown : (s.tcnt - 1).toNat + 1 = s.tcnt.toNat := by bv_omega
  exact ⟨sampleStep_of_completes (by simp) hwait, _, hwait, hdown, rfl⟩

/-- Settles O19: X.SYNC is the shift of the synchroniser (40_sampler R110). -/
theorem synchroniserShifts : Obligations.SynchroniserShifts := fun _ _ => rfl

end Sys2Proof.Machine
end

section
/-! PROOF. The FIFO (spec 41_fifo R120 to R126): what each operation leaves of the bytes held, and one clock edge seen from
the FIFO, its dispatch turn (a pop or none) and then its sample turn (a push, a drop or neither). -/

namespace Sys2Proof.Machine

/-! ### The bytes held -/

/-- A pop takes the byte at `rd` off the front of the bytes held (41_fifo R120, R123). -/
theorem fifoContents_eq_cons_popped {s : State} (hr : s.rd < s.params.fifoDepth) (hne : s.count ≠ 0) :
    fifoContents s = Memory.read s.mem s.rd :: fifoContents (popped s) := by
  obtain ⟨n, hn⟩ := Nat.exists_eq_succ_of_ne_zero hne
  have hrest : ∀ k, (s.rd + (k + 1)) % s.params.fifoDepth = (nextIndex s s.rd + k) % s.params.fifoDepth := by
    intro k
    rw [nextIndex, Nat.mod_add_mod, Nat.add_right_comm, Nat.add_assoc]
  simp [fifoContents, hn, List.range_succ_eq_map, Nat.mod_eq_of_lt hr, hrest]

/-- The FIFO has room exactly where it does not hold FIFO_DEPTH bytes (41_fifo R125). -/
theorem full_eq_false_iff (s : State) : full s = false ↔ s.count ≠ s.params.fifoDepth := by
  rw [Bool.eq_false_iff, Ne, full_iff]

/-- Settles O20: F.PUSH is selected where there is room, and its byte is appended. -/
theorem pushAppends : Obligations.PushAppends := by
  intro s b hs hroom
  have hpush := (execFPush_eq_next (b := b)).2 ⟨(full_eq_false_iff s).2 hroom.ne, wr_lt_of_invariants hs, rfl⟩
  exact ⟨_, hpush, rfl, Memory.read_write hs.memWf s.wr b, fifoContents_push hs hroom b⟩

/-- Settles O22: F.POP is selected where there is a byte, and moves `rd` past it. -/
theorem popRemovesTheOldest : Obligations.PopRemovesTheOldest := by
  intro s hs hne
  have hpop := execFPop_eq_next.2 ⟨(hasData_iff s).2 hne, hs.rdBound, rfl⟩
  exact ⟨popped s, hpop, rfl, fifoContents_eq_cons_popped hs.rdBound hne⟩

/-! ### The dispatch turn -/

/-- `u` with all that a dispatch step writes beside the FIFO taken from `v`: the assembler's, the dispatcher's, the duty and
the diagnostic registers and the strobes (10_state R14 to R16, R20). -/
def withConsumerOf (v u : State) : State :=
  { u with
    await_first := v.await_first, stored := v.stored
    d_state := v.d_state, last_act := v.last_act, cmd_l := v.cmd_l, cmd_r := v.cmd_r
    duty_lf := v.duty_lf, duty_lr := v.duty_lr, duty_rf := v.duty_rf, duty_rr := v.duty_rr
    dbg_code := v.dbg_code, dbg_name := v.dbg_name, dbg_valid := v.dbg_valid, cmd_valid := v.cmd_valid }

/-- `t` differs from `s` at most in the registers that a dispatch step writes beside the FIFO. -/
def ChangesConsumerOnly (s t : State) : Prop := t = withConsumerOf t s

theorem ChangesConsumerOnly.trans {s t u : State} (hst : ChangesConsumerOnly s t) (htu : ChangesConsumerOnly t u) :
    ChangesConsumerOnly s u :=
  calc u
    _ = withConsumerOf u t := htu
    _ = withConsumerOf u (withConsumerOf t s) := congrArg (withConsumerOf u) hst

theorem changesConsumerOnly_recordPress (name : ButtonName) (s : State) :
    ChangesConsumerOnly s (recordPress name s) := by
  unfold recordPress
  split <;> rfl

theorem changesConsumerOnly_pressAndForward (name : ButtonName) (s : State) :
    ChangesConsumerOnly s (pressAndForward name s) :=
  (changesConsumerOnly_recordPress name s).trans rfl

/-- Phase 2 leaves the FIFO alone (43_dispatcher R170, R171). -/
theorem changesConsumerOnly_timeout (s : State) :
    ChangesConsumerOnly s (if pressed s && timeUp s then forcedStop s else s) := by
  split <;> rfl

/-- A dispatch step that finds a byte pops it, and changes nothing else of the FIFO (42_frame_decoder R136, R137). -/
theorem dispatchStep_of_nonempty {s : State} (hr : s.rd < s.params.fifoDepth) (hne : s.count ≠ 0) :
    ∃ v, dispatchStep s = .next (withConsumerOf v (popped s)) := by
  obtain ⟨u, -, hstep, hcases⟩ := dispatchStep_cases hr
  have hu : ChangesConsumerOnly (popped s) u := by
    obtain ⟨h0, -⟩ | ⟨-, -, rfl⟩ | ⟨-, -, code, -, rfl⟩ := hcases
    · exact absurd h0 hne
    · rfl
    · have hframe : ChangesConsumerOnly (popped s) (completeFrame code (popped s)) := rfl
      split
      · exact hframe.trans (changesConsumerOnly_pressAndForward _ _)
      · exact hframe
  exact ⟨_, hstep.trans (congrArg _ (hu.trans (changesConsumerOnly_timeout u)))⟩

/-- A dispatch step that finds no byte leaves the FIFO and the assembler as they are (42_frame_decoder R135). -/
theorem dispatchStep_of_empty {s : State} (hr : s.rd < s.params.fifoDepth) (h0 : s.count = 0) :
    ∃ v, dispatchStep s = .next (withConsumerOf v s) ∧ v.await_first = s.await_first ∧ v.stored = s.stored := by
  obtain ⟨u, -, hstep, ⟨-, rfl⟩ | ⟨hne, -⟩ | ⟨hne, -⟩⟩ := dispatchStep_cases hr
  · refine ⟨_, hstep.trans (congrArg _ (changesConsumerOnly_timeout u)), ?_⟩
    split <;> exact ⟨rfl, rfl⟩
  · exact absurd h0 hne
  · exact absurd h0 hne

/-- The dispatch step's turn at a clock edge, the first of `ClkStep` (45_timebase_and_clock R212). -/
def dispatchTurn (s : State) : Result := onTick (dispatchTick s) dispatchStep (clearStrobes s)

theorem dispatchTurn_of_pop {s : State} (hr : s.rd < s.params.fifoDepth) (hpop : dispatchTick s = true ∧ s.count ≠ 0) :
    ∃ v, dispatchTurn s = .next (withConsumerOf v (popped s)) := by
  rw [dispatchTurn, hpop.1]
  exact dispatchStep_of_nonempty (s := clearStrobes s) hr hpop.2

theorem dispatchTurn_of_no_pop {s : State} (hr : s.rd < s.params.fifoDepth)
    (hno : ¬ (dispatchTick s = true ∧ s.count ≠ 0)) :
    ∃ v, dispatchTurn s = .next (withConsumerOf v s) ∧ v.await_first = s.await_first ∧ v.stored = s.stored := by
  rw [dispatchTurn]
  cases htick : dispatchTick s with
  | false => exact ⟨clearStrobes s, rfl, rfl, rfl⟩
  | true => exact dispatchStep_of_empty (s := clearStrobes s) hr (not_not.1 fun hne => hno ⟨htick, hne⟩)

/-- Whether or not it pops, the dispatch turn writes `rd` and `count` alone of the FIFO and the sampler (20_memory R60). -/
theorem dispatchTurn_frame {s a : State} (h : dispatchTurn s = .next a) :
    ∃ v rd count, a = withConsumerOf v { s with rd := rd, count := count } := by
  obtain ⟨-, hstep⟩ | ⟨-, rfl⟩ := onTick_eq_next.1 h
  · exact ⟨a, a.rd, a.count, (dispatchStep_frame hstep :)⟩
  · exact ⟨clearStrobes s, s.rd, s.count, rfl⟩

theorem invariants_dispatchTurn {s a : State} (hs : Invariants s) (h : dispatchTurn s = .next a) : Invariants a :=
  keepsInvariants_dispatchStep.of_onTick (invariants_clearStrobes hs) h

/-- A pop frees an entry, so the sample turn finds a full FIFO only where there was one and no dispatch tick (41_fifo R126). -/
theorem dispatchTurn_full_iff {s a : State} (hs : Invariants s) (h : dispatchTurn s = .next a) :
    a.count = s.params.fifoDepth ↔ s.count = s.params.fifoDepth ∧ dispatchTick s = false := by
  have hdepth : 0 < s.params.fifoDepth := hs.legal.fifoDepth.1
  have hle := hs.countBound
  by_cases hpop : dispatchTick s = true ∧ s.count ≠ 0
  · obtain ⟨v, hv⟩ := dispatchTurn_of_pop hs.rdBound hpop
    obtain rfl := Host.Outcome.next.inj (h.symm.trans hv)
    have hroom : s.count - 1 ≠ s.params.fifoDepth := by omega
    exact iff_of_false hroom (by simp [hpop.1])
  · obtain ⟨v, hv, -⟩ := dispatchTurn_of_no_pop hs.rdBound hpop
    obtain rfl := Host.Outcome.next.inj (h.symm.trans hv)
    refine (and_iff_left_of_imp fun hfull => Bool.eq_false_iff.2 fun htick => hpop ⟨htick, ?_⟩).symm
    exact hfull ▸ hdepth.ne'

/-! ### The rest of the edge -/

/-- What `ClkStep` makes of the state after the sample turn: the two counters, each on its tick before the edge, the
synchroniser and the prescalers (45_timebase_and_clock R212). -/
def restOfEdge (rxPin : Bool) (s b : State) : State :=
  advancePrescalers (synced rxPin { b with
    now := if msTick s then (b.now + 1) % 2 ^ b.params.timerWidth else b.now
    pwm_cnt := if pwmTick s then BitVec.ofNat 16 ((b.pwm_cnt.toNat + 1) % Config.pwmPeriod) else b.pwm_cnt })

/-- Only the two turns that share the FIFO can stop a `ClkStep` (45_timebase_and_clock R212). -/
theorem clkStep_eq (rxPin : Bool) (s : State) :
    clkStep rxPin s =
      andThen (dispatchTurn s) fun a =>
      andThen (onTick (sampleTick s) (sampleStep s.rx_sync) a) fun b =>
      .next (restOfEdge rxPin s b) := by
  unfold clkStep restOfEdge
  cases msTick s <;> cases pwmTick s <;> rfl

/-! ### The overflow flag along an edge -/

theorem fifoPush_fifo_ovf {b : Byte} {s t : State} (h : fifoPush b s = .next t) :
    t.fifo_ovf = true ↔ s.fifo_ovf = true ∨ s.count = s.params.fifoDepth := by
  obtain ⟨hfull, rfl⟩ | ⟨hroom, hpush⟩ := fifoPush_eq_next.1 h
  · exact iff_of_true rfl (.inr ((full_iff s).1 hfull))
  · obtain ⟨-, rfl⟩ := pushByte_eq_next.1 hpush
    exact (or_iff_left ((full_eq_false_iff s).1 hroom)).symm

/-- A sample step sets the flag where it completes a byte and the FIFO is full, and never clears it (41_fifo R122). -/
theorem sampleStep_fifo_ovf {s t : State} {rx : Bool} (h : sampleStep rx s = .next t) :
    t.fifo_ovf = true ↔ s.fifo_ovf = true ∨
      s.s_state = .recv ∧ s.tcnt = 0 ∧ s.bitn = 7 ∧ s.count = s.params.fifoDepth := by
  obtain ⟨hs, -, rfl⟩ | ⟨hs, -, rfl⟩ | ⟨-, ht, rfl⟩ | ⟨-, -, hb, rfl⟩ | ⟨hs, ht, hb, hpush⟩ := sampleStep_cases h
  · simp [hs]
  · simp [hs]
  · exact (or_iff_left fun hlast => ht hlast.2.1).symm
  · exact (or_iff_left fun hlast => hb hlast.2.2.1).symm
  · simpa [hs, ht, hb] using fifoPush_fifo_ovf hpush

/-- The flag after a `ClkStep`, with the count that its dispatch turn leaves (41_fifo R122, R126). -/
theorem clkStep_fifo_ovf {s t : State} {rxPin : Bool} (h : clkStep rxPin s = .next t) :
    ∃ a, dispatchTurn s = .next a ∧
      (t.fifo_ovf = true ↔ s.fifo_ovf = true ∨
        sampleTick s = true ∧ s.s_state = .recv ∧ s.tcnt = 0 ∧ s.bitn = 7 ∧ a.count = s.params.fifoDepth) := by
  rw [clkStep_eq] at h
  obtain ⟨a, hturn, hrest⟩ := andThen_eq_next.1 h
  obtain ⟨b, hsample, hb⟩ := andThen_eq_next.1 hrest
  obtain rfl := Host.Outcome.next.inj hb
  refine ⟨a, hturn, ?_⟩
  obtain ⟨v, rd, count, rfl⟩ := dispatchTurn_frame hturn
  obtain ⟨htick, hstep⟩ | ⟨htick, rfl⟩ := onTick_eq_next.1 hsample
  · rw [htick, eq_self_iff_true, true_and]
    exact sampleStep_fifo_ovf hstep
  · exact (or_iff_left fun hdrop => Bool.false_ne_true (htick.symm.trans hdrop.1)).symm

/-- Settles O21: the flag is set by a drop only, a drop needs a full FIFO in the sample turn, and a reset edge clears it. -/
theorem dropSetsOnlyTheOverflowFlag : Obligations.DropSetsOnlyTheOverflowFlag := by
  refine ⟨fun s b hfull => ⟨(execFDrop_eq_next (b := b)).2 ⟨(full_iff s).2 hfull, rfl⟩, rfl⟩, fun s t h => ?_⟩
  obtain ⟨hrst, rfl⟩ | ⟨hrst, u, hu, rfl⟩ := clockEdge_eq_next.1 h
  · simp [hrst, resetEdge, State.reset]
  · obtain ⟨a, hturn, hovf⟩ := clkStep_fifo_ovf hu
    refine ⟨fun _ hset => hovf.2 (.inl hset), fun _ hs hclear => ?_, fun hreset => ?_⟩
    · rw [consumeInput_fifo_ovf, hovf, dispatchTurn_full_iff hs hturn]
      simp [hclear]
    · simp [hrst] at hreset

/-! ### A push and a pop in one edge -/

/-- An edge whose sample turn finds the last payload bit ends in the `FifoPush` of the completed byte (40_sampler R105). -/
theorem clkStep_of_last {s a : State} (hturn : dispatchTurn s = .next a) (htick : sampleTick s = true)
    (hrecv : a.s_state = .recv) (htcnt : a.tcnt = 0) (hbitn : a.bitn = 7) (rxPin : Bool) :
    clkStep rxPin s =
      andThen (fifoPush (shiftIn s.rx_sync a.shreg) (completed s.rx_sync a)) fun b => .next (restOfEdge rxPin s b) := by
  have hlast : sampleStep s.rx_sync a = fifoPush (shiftIn s.rx_sync a.shreg) (completed s.rx_sync a) := by
    rw [sampleStep_eq, hrecv]
    exact (if_pos htcnt).trans ((if_pos hbitn).trans (exec_sLast_of_last hrecv htcnt hbitn s.rx_sync))
  rw [clkStep_eq, hturn, andThen_next, htick, onTick_true, hlast]

/-- The state that the last payload bit pushes its byte in meets the invariants (40_sampler R105). -/
theorem invariants_afterLast {s a : State} (hs : Invariants s) (hturn : dispatchTurn s = .next a) :
    Invariants (completed s.rx_sync a) :=
  invariants_completed (invariants_dispatchTurn hs hturn) s.rx_sync

/-- Settles O24: the push finds the FIFO as the dispatch turn leaves it, one byte shorter or as it was. -/
theorem pushAndPopInOneCycle : Obligations.PushAndPopInOneCycle := by
  intro s rxPin hs htick hrecv htcnt hbitn
  have hle := hs.countBound
  by_cases hpop : dispatchTick s = true ∧ s.count ≠ 0
  · obtain ⟨v, hturn⟩ := dispatchTurn_of_pop hs.rdBound hpop
    have hinv := invariants_afterLast hs hturn
    have hroom : s.count - 1 < s.params.fifoDepth := by omega
    have hclk := clkStep_of_last hturn htick hrecv htcnt hbitn rxPin
    rw [fifoPush_of_room hinv hroom, andThen_next] at hclk
    refine ⟨_, hclk, ?_⟩
    simp only [if_pos hpop]
    refine ⟨Nat.sub_one_add_one hpop.2, rfl, rfl, rfl, Memory.read_write_same hs.memWf _ _, ?_⟩
    rw [fifoContents_eq_cons_popped hs.rdBound hpop.2]
    exact fifoContents_push hinv hroom _
  · obtain ⟨v, hturn, hfirst, hstored⟩ := dispatchTurn_of_no_pop hs.rdBound hpop
    have hinv := invariants_afterLast hs hturn
    have hclk := clkStep_of_last hturn htick hrecv htcnt hbitn rxPin
    simp only [if_neg hpop]
    by_cases hroom : s.count < s.params.fifoDepth
    · rw [fifoPush_of_room hinv hroom, andThen_next] at hclk
      refine ⟨_, hclk, ?_⟩
      simp only [if_pos hroom]
      exact ⟨rfl, rfl, rfl, rfl, hfirst, hstored, fifoContents_push hinv hroom _⟩
    · have hfull : s.count = s.params.fifoDepth := by omega
      rw [fifoPush_of_full (s := completed s.rx_sync (withConsumerOf v s)) hfull, andThen_next] at hclk
      refine ⟨_, hclk, ?_⟩
      simp only [if_neg hroom]
      exact ⟨rfl, rfl, rfl, rfl, rfl⟩

end Sys2Proof.Machine
end

section
/-! PROOF. The button decoder and the frame assembler (spec 42_frame_decoder R135 to R142): what the ROM names each code,
what the two bytes of a pair do, and the clock edge that performs the row of a completed frame. -/

namespace Sys2Proof

/-! ### The button ROM -/

/-- A valid button event is a name other than `Idle` and `Unknown` (43_dispatcher R151). -/
theorem ButtonName.isEvent_iff (name : ButtonName) : name.isEvent = true ↔ name ≠ .unknown ∧ name ≠ .idle := by
  cases name <;> decide

/-- A code is `Unknown` exactly if no row lists it (30_encoding R75, R76). -/
theorem buttonRom_eq_unknown_iff (code : KeyCode) : buttonRom code = .unknown ↔ code ∉ listedCodes := by
  obtain hlisted | ⟨hfree, hname⟩ := listed_or_unknown code
  · have hnamed : buttonRom code ≠ .unknown :=
      forall_listed (P := fun code => buttonRom code ≠ .unknown) (by decide) hlisted
    exact iff_of_false hnamed (not_not_intro hlisted)
  · exact iff_of_true hname hfree

/-- Two codes are `Idle` (30_encoding R75). -/
theorem buttonRom_eq_idle_iff (code : KeyCode) : buttonRom code = .idle ↔ code = 0x0000 ∨ code = 0x0001 := by
  refine ⟨fun hidle => ?_, ?_⟩
  · have hlisted : code ∈ listedCodes := by
      by_contra hfree
      simp [(buttonRom_eq_unknown_iff code).2 hfree] at hidle
    have hcode := forall_listed (P := fun code => buttonRom code != .idle || code == 0x0000 || code == 0x0001)
      (by decide) hlisted
    simpa [hidle] using hcode
  · rintro (rfl | rfl) <;> rfl

/-- The other 14 listed codes are valid button events (30_encoding R75, 43_dispatcher R151). -/
theorem buttonRom_isEvent_iff (code : KeyCode) :
    (buttonRom code).isEvent = true ↔ code ∈ listedCodes ∧ code ≠ 0x0000 ∧ code ≠ 0x0001 := by
  rw [ButtonName.isEvent_iff, Ne, buttonRom_eq_unknown_iff, not_not, Ne, buttonRom_eq_idle_iff, not_or]

end Sys2Proof

namespace Sys2Proof.Machine

/-- Parameters that override no ROM name a code as the table does (30_encoding R75, 00_scope R4). -/
theorem romName_of_no_override {p : Config.Params} (h : p.buttonRom = none) (code : KeyCode) :
    romName p code = buttonRom code := by
  simp only [romName, h]

/-- Settles O5: the 14 names are looked up, and every code is listed or `Unknown`. -/
theorem decodeNamesEveryCode : Obligations.DecodeNamesEveryCode :=
  ⟨rfl, fun code => ⟨buttonRom_eq_unknown_iff code, buttonRom_eq_idle_iff code, buttonRom_isEvent_iff code,
    fun _ hrom => romName_of_no_override hrom code, fun _ => rfl⟩⟩

/-! ### The two bytes of a pair -/

/-- Settles O25: B.NONE is selected with no byte held, FA.FIRST with a byte held and the flag set. -/
theorem assemblerKeepsTheFirstByte : Obligations.AssemblerKeepsTheFirstByte := by
  refine fun s => ⟨fun hempty => ?_, fun hne hfirst hr => ?_⟩
  · have hnone : hasData s = false := Bool.eq_false_iff.2 fun hdata => (hasData_iff s).1 hdata hempty
    exact execBNone_eq_next.2 ⟨hnone, rfl⟩
  · exact execFaFirst_eq_next.2 ⟨⟨(hasData_iff s).2 hne, hfirst⟩, hr, rfl⟩

/-- FA.SECOND is the KeyCode row of the code's name, on the completed frame (42_frame_decoder R137). -/
theorem exec_faSecond_eq_row {s : State} (hne : s.count ≠ 0) (hsecond : s.await_first = false)
    (hr : s.rd < s.params.fifoDepth) {code : KeyCode} (hcode : code = keyCodeOf s.stored (Memory.read s.mem s.rd)) :
    exec .faSecond s = exec (keyCodeRow (romName s.params code) code) (completeFrame code (popped s)) := by
  have hdata : hasData s = true := (hasData_iff s).2 hne
  calc exec .faSecond s
    _ = .next _ := execFaSecond_eq hdata hsecond hr hcode
    _ = performKeyCode code (completeFrame code (popped s)) :=
      (performKeyCode_eq code (completeFrame code (popped s))).symm
    _ = exec (keyCodeRow (romName s.params code) code) (completeFrame code (popped s)) := performKeyCode_eq_exec code _

/-- With a byte held and the flag clear, the dispatch step is FA.SECOND, then the timeout check (43_dispatcher R150). -/
theorem dispatchStep_of_second {s : State} (hne : s.count ≠ 0) (hsecond : s.await_first = false) :
    dispatchStep s = andThen (exec .faSecond s) fun a => exec (timeoutOp a) a := by
  have hop : byteOp s = .faSecond := by
    simp [byteOp_eq, (hasData_iff s).2 hne, hsecond]
  rw [dispatchStep, hop]

/-- What the row of a name leaves of the registers FA.SECOND speaks of: the event's two are its own, the others' are those
of the completed frame (42_frame_decoder R137, 43_dispatcher R152). -/
theorem afterFrame_registers (name : ButtonName) {s t : State}
    (ht : t = if name.isEvent then pressAndForward name s else s) :
    t.await_first = s.await_first ∧ t.stored = s.stored ∧ t.mem = s.mem ∧ t.rd = s.rd ∧ t.count = s.count ∧
      t.dbg_code = s.dbg_code ∧ t.dbg_name = s.dbg_name ∧ t.dbg_valid = s.dbg_valid ∧
      (t.d_state = .pressed ↔ s.d_state = .pressed ∨ name.isEvent = true) ∧
      t.last_act = if name.isEvent then s.now else s.last_act := by
  subst ht
  cases name.isEvent <;> simp

/-- Settles O26: FA.SECOND completes the frame, and its row adds the press of an event name. -/
theorem secondByteDispatchesTheFrame : Obligations.SecondByteDispatchesTheFrame := by
  intro s hne hsecond hr code name
  refine ⟨fun hrom => ?_, exec_faSecond_eq_row hne hsecond hr rfl, ?_⟩
  · exact congrArg (keyCodeRow · code) (romName_of_no_override hrom code)
  · exact ⟨_, execFaSecond_eq ((hasData_iff s).2 hne) hsecond hr rfl,
      afterFrame_registers name (s := completeFrame code (popped s)) rfl⟩

/-! ### The edge that performs a completed frame -/

/-- An edge with no reset is a `ClkStep`, and uses up the input level (70_reset R260, log 3). -/
theorem step_of_no_reset {s : State} (hrst : (pinsNow s).rst = false) :
    step s = andThen (clkStep (pinsNow s).rx_pin s) fun t => .next (consumeInput t) := by
  simp only [step, clockEdge, hrst, Bool.false_eq_true, if_false]

/-- Two bytes decode to the row of the KeyCode they form (30_encoding R73). -/
theorem eq_decodeKeyCode_of_decodeBytes {hi lo : Byte} {i : Instr} (h : decodeBytes [hi, lo] = .ok (i, [])) :
    i = decodeKeyCode (keyCodeOf hi lo) := by
  simpa [decodeBytes, eq_comm] using h

/-- Settles O44: the dispatch turn is FA.SECOND on the state with cleared strobes, and FA.SECOND is the decoded row. -/
theorem stepRunsTheDecodedKeyCode : Obligations.StepRunsTheDecodedKeyCode := by
  intro s i hrst htick hrom hne hsecond hr hdecode _
  obtain rfl := eq_decodeKeyCode_of_decodeBytes hdecode
  have hfires : dispatchTick s = true := (fires_iff _ _).2 htick
  have hrow := exec_faSecond_eq_row (s := clearStrobes s) hne hsecond hr rfl
  rw [clearStrobes_params, romName_of_no_override hrom] at hrow
  have hdispatch := dispatchStep_of_second (s := clearStrobes s) hne hsecond
  rw [hrow] at hdispatch
  rw [step_of_no_reset hrst, clkStep, hfires, onTick_true, hdispatch]
  simp only [andThen_assoc, andThen_next]
  rfl

end Sys2Proof.Machine
end

section
/-! PROOF. The dispatcher's presses and its release timeout (spec 43_dispatcher R151 to R172): a press is forwarded with the
command of the direction ROM or with the one there is, a stop with command 0; and the elapsed time across a wrap. -/

namespace Sys2Proof.Machine

/-! ### A press -/

/-- The duties of a state that meets R26 (d) are those of its command, so forwarding it pulses `cmd_valid` only
(44_motor_driver R190). -/
theorem forward_of_invariants {s : State} (hs : Invariants s) : forward s = { s with cmd_valid := true } := by
  simp only [forward, applyCommand, ← hs.dutyLeft, ← hs.dutyRight]

/-- A press that the direction ROM gives a command forwards that command, which its registers hold exactly
(43_dispatcher R152, 30_encoding R79). -/
theorem pressAndForward_of_direction {s : State} {name : ButtonName} {l r : Int}
    (hdir : dirRom s.params name = some (l, r)) : pressAndForward name s = afterPress l r s := by
  obtain ⟨hl, hr⟩ := dirRom_range hdir
  simp only [pressAndForward, recordPress, hdir, forward, applyCommand, afterPress, toInt_toSpeed hl, toInt_toSpeed hr]

/-- The registers of a press that leaves the command as it is, before it is forwarded (43_dispatcher R152). -/
def refreshed (s : State) : State := { s with last_act := s.now, d_state := .pressed }

theorem invariants_refreshed {s : State} (hs : Invariants s) : Invariants (refreshed s) :=
  { hs with idleStopped := nofun, lastRange := hs.nowRange }

/-- A press that the direction ROM gives nothing forwards the command there is (43_dispatcher R152). -/
theorem pressAndForward_of_no_direction {s : State} {name : ButtonName} (hdir : dirRom s.params name = none) :
    pressAndForward name s = forward (refreshed s) := by
  simp only [pressAndForward, recordPress, hdir, refreshed]

theorem exec_press_of_event {name : ButtonName} (hevent : name.isEvent = true) (s : State) :
    exec (.press name) s = .next (pressAndForward name s) :=
  if_pos hevent

/-- Settles O10: by what the direction ROM gives the name. -/
theorem pressRecordsAndForwards : Obligations.PressRecordsAndForwards := by
  intro s name hevent
  rw [exec_press_of_event hevent]
  refine ⟨fun l r hdir => congrArg _ (pressAndForward_of_direction hdir), fun hdir => ?_⟩
  rw [pressAndForward_of_no_direction hdir]
  exact ⟨rfl, fun hs => congrArg _ (forward_of_invariants (invariants_refreshed hs))⟩

/-- Settles O11: neither name passes the check of PRESS (43_dispatcher R151). -/
theorem pressOfNoEventIsRefused : Obligations.PressOfNoEventIsRefused := fun _ => ⟨rfl, rfl⟩

/-! ### The KeyCode rows -/

/-- Parameters that override no direction ROM have the table's directions (30_encoding R78, 00_scope R4). -/
theorem dirRom_of_no_override {p : Config.Params} (h : p.dirRom = none) (name : ButtonName) :
    dirRom p name = directionTable p name := by
  simp only [dirRom, h]

/-- The speed of the direction table is in range (30_encoding R78, 44_motor_driver R191). -/
theorem driveSpeed_range (p : Config.Params) : -100 ≤ driveSpeed p ∧ driveSpeed p ≤ 100 := clamp_range p.speed

/-- Settles O7: each row is the press of its name, and the direction table gives the four names a command. -/
theorem directionRowsSetCommandAndDuties : Obligations.DirectionRowsSetCommandAndDuties := by
  refine ⟨rfl, rfl, rfl, rfl, fun s => ⟨rfl, rfl, rfl, rfl, ?_⟩⟩
  intro S
  obtain ⟨hlow, hhigh⟩ : -100 ≤ S ∧ S ≤ 100 := driveSpeed_range s.params
  refine ⟨rfl, toInt_toSpeed ⟨hlow, hhigh⟩, toInt_toSpeed ⟨by omega, by omega⟩, fun hrom => ?_⟩
  have row : ∀ {name : ButtonName} {l r : Int}, directionTable s.params name = some (l, r) →
      (.next (pressAndForward name s) : Result) = .next (afterPress l r s) := fun htable =>
    congrArg _ (pressAndForward_of_direction ((dirRom_of_no_override hrom _).trans htable))
  exact ⟨row rfl, row rfl, row rfl, row rfl⟩

/-- Settles O8: each row is the press of an event name that the direction table gives nothing. -/
theorem otherButtonsRefreshAndKeepTheCommand : Obligations.OtherButtonsRefreshAndKeepTheCommand := by
  intro row hrow
  obtain ⟨hbytes, hpress, hevent, hnone⟩ : decodeBytes [row.1.1, row.1.2] = .ok (row.2.1, []) ∧
      (∀ s, exec row.2.1 s = exec (.press row.2.2) s) ∧ row.2.2.isEvent = true ∧
      ∀ p, directionTable p row.2.2 = none := by
    simp only [List.mem_cons, List.not_mem_nil, or_false] at hrow
    rcases hrow with rfl | rfl | rfl | rfl | rfl | rfl | rfl | rfl | rfl | rfl <;>
      exact ⟨rfl, fun _ => rfl, rfl, fun _ => rfl⟩
  refine ⟨hbytes, fun s => ⟨hpress s, fun hrom => ?_⟩⟩
  rw [hpress s]
  obtain ⟨-, hkeep⟩ := pressRecordsAndForwards s row.2.2 hevent
  exact hkeep ((dirRom_of_no_override hrom _).trans (hnone _))

/-- Settles O9: a code that is not listed has the row Unknown, and the three rows hand their state on. -/
theorem idleAndUnknownRowsChangeNothing : Obligations.IdleAndUnknownRowsChangeNothing := by
  refine ⟨rfl, rfl, fun hi lo hfree => ?_, fun s => ⟨rfl, rfl, fun _ => rfl⟩⟩
  have hname := (buttonRom_eq_unknown_iff (keyCodeOf hi lo)).2 hfree
  simp only [decodeBytes, decodeKeyCode, hname, keyCodeRow]

/-! ### The release timeout -/

/-- The forced stop forwards command 0, whose duties are 0 at every scale (43_dispatcher R170, 44_motor_driver R190). -/
theorem forcedStop_eq_afterStop (s : State) : forcedStop s = afterStop s := rfl

/-- Settles O28: D.TIMEOUT is selected, and its effect is the forced stop. -/
theorem timeoutStops : Obligations.TimeoutStops := by
  intro s hpressed hlate
  rw [← forcedStop_eq_afterStop]
  exact execDTimeout_eq_next.2 ⟨⟨(pressed_iff s).2 hpressed, (timeUp_iff s).2 hlate⟩, rfl⟩

theorem timeUp_eq_false_iff (s : State) : timeUp s = false ↔ elapsed s ≤ s.params.timeout := by
  rw [Bool.eq_false_iff, Ne, timeUp_iff, Nat.not_lt]

/-- Settles O29: in each state the row of D.HOLD that its selector word chooses completes with no update. -/
theorem holdChangesNothing : Obligations.HoldChangesNothing := by
  refine fun s => ⟨fun hidle => ?_, fun hpressed hearly => ?_⟩
  · exact execDHoldIdle_eq_next.2 ⟨by simp [pressed, hidle], rfl⟩
  · exact execDHoldPressed_eq_next.2 ⟨⟨(pressed_iff s).2 hpressed, (timeUp_eq_false_iff s).2 hearly⟩, rfl⟩

/-- The modular difference grows with the timer, whichever of the two has wrapped (43_dispatcher R172). -/
theorem modSub_add_mod (width a b k : Nat) :
    modSub width ((a + k) % 2 ^ width) b = (modSub width a b + k) % 2 ^ width := by
  have hpos : ((2 ^ width : Nat) : Int) ≠ 0 := by exact_mod_cast (Nat.two_pow_pos width).ne'
  have hcast : ((modSub width a b : Nat) : Int) = ((a : Int) - b) % ((2 ^ width : Nat) : Int) :=
    Int.toNat_of_nonneg (Int.emod_nonneg _ hpos)
  apply Int.ofNat_inj.1
  rw [Int.natCast_emod, Int.natCast_add, hcast, Int.emod_add_emod]
  rw [modSub, Int.toNat_of_nonneg (Int.emod_nonneg _ hpos), Int.natCast_emod, Int.emod_sub_emod]
  congr 1
  push_cast
  ring

/-- Settles O30: the activity time has no distance from itself, so `k` milliseconds later the distance is `k`. -/
theorem elapsedTimeSurvivesTheWrap : Obligations.ElapsedTimeSurvivesTheWrap := by
  intro s k _ _ hk hnow
  have helapsed : elapsed s = k := by
    rw [elapsed, hnow, modSub_add_mod, modSub_self, Nat.zero_add, Nat.mod_eq_of_lt hk]
  exact ⟨helapsed, helapsed ▸ timeUp_iff s⟩

end Sys2Proof.Machine
end

section
/-! PROOF. The dispatch step (spec 43_dispatcher R150, R174, R175): with a valid button event it is the press on the completed
frame, without one it leaves the dispatcher's registers to the timeout check; both hold of the three phases of R150 too. -/

namespace Sys2Proof.Machine

/-! ### With and without an event -/

/-- The event of an assembled KeyCode (43_dispatcher R151). -/
theorem eventNow_of_code {s : State} {code : KeyCode} (h : codeNow s = some code) :
    eventNow s = if (romName s.params code).isEvent then some (romName s.params code) else none := by
  simp only [eventNow, h]

/-- A press is an activity of this millisecond, so no timeout follows it (43_dispatcher R174). -/
theorem expired_of_active_now {s : State} (h : s.last_act = s.now) : expired s = false := by
  have hearly : timeUp s = false := by
    rw [timeUp_eq_false_iff, elapsed, h, modSub_self]
    exact Nat.zero_le _
  rw [expired, hearly, Bool.and_false]

theorem expired_pressAndForward (name : ButtonName) (s : State) : expired (pressAndForward name s) = false :=
  expired_of_active_now (by simp)

/-- Phase 2 forces the stop where the timeout has passed in the state phase 1 leaves (43_dispatcher R170, R171). -/
theorem dispatchStep_of_phase1 {s u : State} (h : exec (byteOp s) s = .next u) :
    dispatchStep s = .next (if expired u then forcedStop u else u) := by
  rw [dispatchStep, h, andThen_next]
  exact exec_timeoutOp u

/-- A valid button event is pressed on the completed frame, and beats the timeout (43_dispatcher R174). -/
theorem dispatchStep_of_event {s : State} {name : ButtonName} (hr : s.rd < s.params.fifoDepth)
    (hevent : eventNow s = some name) :
    ∃ code, dispatchStep s = .next (pressAndForward name (completeFrame code (popped s))) := by
  obtain ⟨u, hbyte, -, hcases⟩ := dispatchStep_cases hr
  obtain ⟨h0, -⟩ | ⟨-, ha, -⟩ | ⟨h0, ha, code, hcode, rfl⟩ := hcases
  · simp [eventNow_of_no_code (codeNow_of_empty h0)] at hevent
  · simp [eventNow_of_no_code (codeNow_of_first ha)] at hevent
  · rw [eventNow_of_code (hcode ▸ codeNow_of_second h0 ha), Option.ite_none_right_eq_some,
      Option.some.injEq] at hevent
    obtain ⟨hname, rfl⟩ := hevent
    rw [if_pos hname] at hbyte
    refine ⟨code, ?_⟩
    rw [dispatchStep_of_phase1 hbyte, expired_pressAndForward, if_neg Bool.false_ne_true]

/-- `u` with all that phase 1 writes without an event taken from `v`: the consumer's side of the FIFO, the assembler's and
the diagnostic registers (42_frame_decoder R135 to R137). -/
def withFrameOf (v u : State) : State :=
  { u with
    rd := v.rd, count := v.count, await_first := v.await_first, stored := v.stored
    dbg_code := v.dbg_code, dbg_name := v.dbg_name, dbg_valid := v.dbg_valid }

/-- Without an event the dispatcher's registers are left to the timeout check (43_dispatcher R170, R171). -/
theorem dispatchStep_of_no_event {s : State} (hr : s.rd < s.params.fifoDepth) (hno : eventNow s = none) :
    ∃ v, dispatchStep s = .next (if expired s then forcedStop (withFrameOf v s) else withFrameOf v s) := by
  obtain ⟨u, hbyte, -, hcases⟩ := dispatchStep_cases hr
  have hu : u = withFrameOf u s := by
    obtain ⟨-, rfl⟩ | ⟨-, -, rfl⟩ | ⟨h0, ha, code, hcode, rfl⟩ := hcases
    · rfl
    · rfl
    · have hname : (romName s.params code).isEvent = false := by
        rw [← eventNow_isSome (hcode ▸ codeNow_of_second h0 ha), hno, Option.isSome_none]
      rw [hname]
      rfl
  exact ⟨u, dispatchStep_of_phase1 (hbyte.trans (congrArg _ hu))⟩

/-! ### The transition table -/

/-- D_IDLE means that the robot is stopped: command 0, whose duties are 0 (10_state R26 (c), (d); 43_dispatcher R177). -/
theorem stopped_of_idle {s : State} (hs : Invariants s) (hidle : s.d_state = .idle) :
    s.cmd_l = 0 ∧ s.cmd_r = 0 ∧ AllOff s := by
  obtain ⟨hl, hr⟩ := hs.idleStopped hidle
  have hleft : (s.duty_lf, s.duty_lr) = (0, 0) := by simpa [hl] using hs.dutyLeft
  have hright : (s.duty_rf, s.duty_rr) = (0, 0) := by simpa [hr] using hs.dutyRight
  obtain ⟨hlf, hlr⟩ := Prod.mk.inj hleft
  obtain ⟨hrf, hrr⟩ := Prod.mk.inj hright
  exact ⟨hl, hr, hlf, hlr, hrf, hrr⟩

/-- Settles O51: the state after a step meets the invariants too. -/
theorem idleMeansStopped : Obligations.IdleMeansStopped :=
  fun _ _ hs h hidle => stopped_of_idle (everyStepKeepsTheInvariants _ _ hs h) hidle

theorem expired_of_idle {s : State} (hidle : s.d_state = .idle) : expired s = false := by
  simp [expired, pressed, hidle]

/-- Settles O32: an event is pressed, whatever the state; without one D_IDLE and the time decide. -/
theorem dispatcherFollowsItsTable : Obligations.DispatcherFollowsItsTable := by
  intro s hs
  split
  next name hevent =>
    obtain ⟨code, hstep⟩ := dispatchStep_of_event hs.rdBound hevent
    exact ⟨_, hstep, by simp, by simp, rfl, by simp [recordPress_cmd_l], by simp [recordPress_cmd_r], by simp, by simp⟩
  next hidle hno =>
    obtain ⟨v, hstep⟩ := dispatchStep_of_no_event hs.rdBound hno
    rw [expired_of_idle hidle, if_neg Bool.false_ne_true] at hstep
    exact ⟨_, hstep, hidle, rfl, rfl, (stopped_of_idle hs hidle :)⟩
  next hpressed hno =>
    obtain ⟨v, hstep⟩ := dispatchStep_of_no_event hs.rdBound hno
    refine ⟨_, hstep, ?_⟩
    by_cases hlate : s.params.timeout < elapsed s
    · rw [if_pos hlate, if_pos ((expired_iff s).2 ⟨hpressed, hlate⟩)]
      exact ⟨rfl, rfl, rfl, rfl, rfl, rfl, rfl, rfl, rfl⟩
    · rw [if_neg hlate, if_neg fun hexp => hlate ((expired_iff s).1 hexp).2]
      exact ⟨rfl, hpressed, rfl, rfl, rfl, rfl, rfl, rfl, rfl⟩

/-! ### The three phases of R150 -/

/-- Phase 1 of R150 in the names of the operations: what each hands on, and whether it asks for the motor update. -/
theorem phaseByte_eq (s : State) (next : Bool → State → Result) :
    phaseByte s next =
      if s.count = 0 then next false s
      else if s.rd < s.params.fifoDepth then
        if s.await_first then next false (keepFirst (Memory.read s.mem s.rd) (popped s))
        else
          let code := keyCodeOf s.stored (Memory.read s.mem s.rd)
          if (romName s.params code).isEvent then
            next true (recordPress (romName s.params code) (completeFrame code (popped s)))
          else next false (completeFrame code (popped s))
      else .fault .fifoIndexOutOfRange := rfl

/-- Phases 2 and 3 of R150, with the request that phase 1 makes. -/
def laterPhases (fwd : Bool) (s : State) : Result := phaseTimeout fwd s fun fwd s => phaseMotor fwd s

theorem dispatchByPhases_eq (s : State) : dispatchByPhases s = phaseByte s laterPhases := rfl

/-- A timeout forwards the stop, else what phase 1 asked for is done (43_dispatcher R150). -/
theorem laterPhases_eq (fwd : Bool) (s : State) :
    laterPhases fwd s = if expired s then .next (forcedStop s) else phaseMotor fwd s := by
  simp only [expired_iff]
  rfl

/-- Where phase 1 asks for nothing, the rest is the operation of phase 2 (43_dispatcher R170, R171). -/
theorem laterPhases_of_no_press (s : State) : laterPhases false s = exec (timeoutOp s) s := by
  rw [laterPhases_eq, exec_timeoutOp, apply_ite Host.Outcome.next]
  rfl

/-- Where phase 1 has pressed, there is no timeout, and phase 3 forwards the command (43_dispatcher R174, log 5). -/
theorem laterPhases_of_press (name : ButtonName) (s : State) :
    laterPhases true (recordPress name s) =
      exec (timeoutOp (pressAndForward name s)) (pressAndForward name s) := by
  have hforward : exec (timeoutOp (pressAndForward name s)) (pressAndForward name s) = .next _ := exec_timeoutOp _
  rw [laterPhases_eq, expired_of_active_now (by simp), hforward, ← expired, expired_pressAndForward]
  rfl

/-- With a byte held and a read index that does not exist, phase 1 is the model's fault (20_memory R57, log 8). -/
theorem exec_byteOp_of_missing {s : State} (hne : s.count ≠ 0) (hr : ¬ s.rd < s.params.fifoDepth) :
    exec (byteOp s) s = .fault .fifoIndexOutOfRange := by
  have hdata : hasData s = true := (hasData_iff s).2 hne
  have hmissing := fifoPop_of_missing (Nat.not_lt.1 hr)
  rw [exec_byteOp, if_pos hdata]
  cases hfirst : s.await_first <;> simp [execFaFirst, execFaSecond, hdata, hfirst, hmissing]

/-- Settles O31: by the operation that phase 1 performs, and by the name of the KeyCode that FA.SECOND completes. -/
theorem dispatchStepIsItsThreePhases : Obligations.DispatchStepIsItsThreePhases := by
  intro s
  rw [dispatchByPhases_eq, phaseByte_eq, dispatchStep]
  by_cases h0 : s.count = 0
  · have hnone : exec (byteOp s) s = .next s := by simp [exec_byteOp, hasData, h0, execBNone]
    rw [hnone, andThen_next, if_pos h0, laterPhases_of_no_press]
  rw [if_neg h0]
  by_cases hr : s.rd < s.params.fifoDepth
  · obtain ⟨u, hbyte, -, ⟨hempty, -⟩ | ⟨-, ha, rfl⟩ | ⟨-, ha, code, rfl, rfl⟩⟩ := dispatchStep_cases hr
    · exact absurd hempty h0
    · rw [hbyte, andThen_next, if_pos hr, if_pos ha, laterPhases_of_no_press]
    · rw [hbyte, andThen_next, if_pos hr, if_neg (Bool.eq_false_iff.1 ha)]
      dsimp only
      split
      · exact (laterPhases_of_press _ _).symm
      · exact (laterPhases_of_no_press _).symm
  · rw [exec_byteOp_of_missing h0 hr, andThen_fault, if_neg hr]

end Sys2Proof.Machine
end

section
/-! PROOF. The agents in any order (spec 45_timebase_and_clock R213): from a good state every agent's step completes, and
while no dispatch step has a valid button event the dispatcher is idle for good, or its stop comes closer with every
millisecond tick (43_dispatcher R173, R176). -/

namespace Sys2Proof.Machine

/-! ### Every agent's step completes -/

theorem fifoPush_completes {s : State} (hs : Invariants s) (b : Byte) : ∃ t, fifoPush b s = .next t := by
  obtain hfull | hroom := hs.countBound.eq_or_lt
  · exact ⟨_, fifoPush_of_full hfull b⟩
  · exact ⟨_, fifoPush_of_room hs hroom b⟩

theorem sampleStep_completes {s : State} (hs : Invariants s) (rx : Bool) : ∃ t, sampleStep rx s = .next t := by
  rw [sampleStep_eq]
  cases hstate : s.s_state with
  | hunt =>
    cases hedge : edge rx s with
    | true => exact ⟨_, execSStart_eq_next.2 ⟨⟨hstate, hedge⟩, rfl⟩⟩
    | false => exact ⟨_, execSHunt_eq_next.2 ⟨⟨hstate, hedge⟩, rfl⟩⟩
  | recv =>
    by_cases htcnt : s.tcnt = 0
    · by_cases hbitn : s.bitn = 7
      · simp only [if_pos htcnt, if_pos hbitn]
        obtain ⟨t, hpush⟩ := fifoPush_completes (invariants_completed hs rx) (shiftIn rx s.shreg)
        exact ⟨t, execSLast_eq_next.2 ⟨⟨hstate, htcnt, hbitn⟩, hpush⟩⟩
      · simp only [if_pos htcnt, if_neg hbitn]
        exact ⟨_, execSShift_eq_next.2 ⟨⟨hstate, htcnt, hbitn⟩, rfl⟩⟩
    · simp only [if_neg htcnt]
      exact ⟨_, execSWait_eq_next.2 ⟨⟨hstate, htcnt⟩, rfl⟩⟩

theorem runAgent_completes {s : State} (hs : Invariants s) : ∀ e, ∃ t, runAgent e s = .next t
  | .sample rx => sampleStep_completes hs rx
  | .disp =>
    have ⟨_, hbyte, _⟩ := dispatchStep_cases hs.rdBound
    ⟨_, dispatchStep_of_phase1 hbyte⟩
  | .ms => ⟨_, rfl⟩
  | .pwm => ⟨_, rfl⟩

theorem keepsInvariants_runAgent : ∀ e, KeepsInvariants (runAgent e)
  | .sample rx => keepsInvariants_sampleStep rx
  | .disp => keepsInvariants_dispatchStep
  | .ms => keepsInvariants_exec .tMs
  | .pwm => keepsInvariants_exec .pStep

/-! ### Interleavings without an event -/

theorem noEventAlong_cons {e : AgentStep} {es : List AgentStep} {s t : State} (h : runAgent e s = .next t) :
    noEventAlong (e :: es) s ↔ (e = .disp → eventNow s = none) ∧ noEventAlong es t := by
  simp only [noEventAlong, h]

/-- An interleaving without an event completes; and a `P`, of the steps to come and the state, that every such step of an
agent hands on holds at its end. -/
theorem runAgents_of_noEventAlong {P : List AgentStep → State → Prop}
    (hkeep : ∀ {e es s t}, Invariants s → (e = .disp → eventNow s = none) → runAgent e s = .next t →
      P (e :: es) s → P es t)
    {es : List AgentStep} {s : State} (hs : Invariants s) (hno : noEventAlong es s) (hP : P es s) :
    ∃ t, runAgents es s = .next t ∧ Invariants t ∧ P [] t := by
  induction es generalizing s with
  | nil => exact ⟨s, rfl, hs, hP⟩
  | cons e es ih =>
    obtain ⟨m, hm⟩ := runAgent_completes hs e
    obtain ⟨hquiet, hrest⟩ := (noEventAlong_cons hm).1 hno
    obtain ⟨t, ht⟩ := ih (keepsInvariants_runAgent e hs hm) hrest (hkeep hs hquiet hm hP)
    rw [runAgents, hm, andThen_next]
    exact ⟨t, ht⟩

/-- An agent's step without an event is a dispatch step that stops the robot, the timeout having passed, or it leaves the
dispatcher's state and the strobe alone and moves the elapsed time on by one at a millisecond tick (43_dispatcher R171). -/
theorem runAgent_of_quiet {e : AgentStep} {s t : State} (hs : Invariants s) (hquiet : e = .disp → eventNow s = none)
    (h : runAgent e s = .next t) :
    (expired s = true ∧ t.d_state = .idle) ∨
    ((e = .disp → expired s = false) ∧ t.d_state = s.d_state ∧ t.cmd_valid = s.cmd_valid ∧ t.params = s.params ∧
      elapsed t = if e = .ms then (elapsed s + 1) % 2 ^ s.params.timerWidth else elapsed s) := by
  cases e with
  | sample rx =>
    have hframe := sampleStep_frame h
    exact .inr ⟨nofun, (congrArg State.d_state hframe :), (congrArg State.cmd_valid hframe :),
      (congrArg State.params hframe :), (congrArg elapsed hframe :)⟩
  | disp =>
    obtain ⟨v, hstep⟩ := dispatchStep_of_no_event hs.rdBound (hquiet rfl)
    obtain rfl := Host.Outcome.next.inj (hstep.symm.trans h)
    cases hexp : expired s with
    | true => exact .inl ⟨rfl, rfl⟩
    | false => exact .inr ⟨fun _ => rfl, rfl, rfl, rfl, rfl⟩
  | ms =>
    obtain rfl := Host.Outcome.next.inj h
    exact .inr ⟨nofun, rfl, rfl, rfl, modSub_add_mod s.params.timerWidth s.now s.last_act 1⟩
  | pwm =>
    obtain rfl := Host.Outcome.next.inj h
    exact .inr ⟨nofun, rfl, rfl, rfl, rfl⟩

/-- D_IDLE lasts, with no command forwarded (43_dispatcher R171, R173). -/
theorem runAgent_of_idle {e : AgentStep} {s t : State} (hs : Invariants s) (hquiet : e = .disp → eventNow s = none)
    (h : runAgent e s = .next t) (hidle : s.d_state = .idle) : t.d_state = .idle ∧ t.cmd_valid = s.cmd_valid := by
  obtain ⟨hexp, -⟩ | ⟨-, hstate, hstrobe, -⟩ := runAgent_of_quiet hs hquiet h
  · exact absurd (hexp.symm.trans (expired_of_idle hidle)) nofun
  · exact ⟨hstate.trans hidle, hstrobe⟩

/-- Settles O33: D_IDLE with the strobe at 0 is kept along the interleaving, and means stopped. -/
theorem idleStaysIdleUntilAnEvent : Obligations.IdleStaysIdleUntilAnEvent := by
  intro s t es hs hidle hstrobe hno h
  obtain ⟨u, hu, hinv, hidleU, hstrobeU⟩ := runAgents_of_noEventAlong
    (P := fun _ s => s.d_state = .idle ∧ s.cmd_valid = false)
    (fun hs hquiet hm ⟨hidle, hstrobe⟩ =>
      have ⟨hidleM, hstrobeM⟩ := runAgent_of_idle hs hquiet hm hidle
      ⟨hidleM, hstrobeM.trans hstrobe⟩)
    hs hno ⟨hidle, hstrobe⟩
  obtain rfl := Host.Outcome.next.inj (hu.symm.trans h)
  obtain ⟨-, -, hoff⟩ := stopped_of_idle hinv hidleU
  exact ⟨hidleU, hstrobeU, hoff⟩

/-! ### Silence -/

/-- The stop comes within `es`: `es` ends in a dispatch step, and its millisecond ticks bring the elapsed time over TIMEOUT
without a wrap of the timer (43_dispatcher R176). -/
def StopDue (es : List AgentStep) (s : State) : Prop :=
  [.disp] <:+ es ∧ s.params.timeout < elapsed s + es.count .ms ∧ elapsed s + es.count .ms < 2 ^ s.params.timerWidth

/-- A step without an event stops the robot, or the stop comes within the steps after it: the last of them, a dispatch step
in D_PRESSED with no tick to come, finds the timeout passed. -/
theorem runAgent_of_stopDue {e : AgentStep} {es : List AgentStep} {s t : State} (hs : Invariants s)
    (hquiet : e = .disp → eventNow s = none) (h : runAgent e s = .next t) (hdue : StopDue (e :: es) s) :
    t.d_state = .idle ∨ StopDue es t := by
  obtain ⟨hlast, hlate, hwrap⟩ := hdue
  obtain ⟨-, hidle⟩ | ⟨hearly, hstate, -, hparams, helapsed⟩ := runAgent_of_quiet hs hquiet h
  · exact .inl hidle
  obtain hend | hlast := List.suffix_cons_iff.1 hlast
  · obtain ⟨rfl, rfl⟩ := List.cons.inj hend
    refine .inl ?_
    cases hd : s.d_state with
    | idle => exact hstate.trans hd
    | pressed => exact absurd ((expired_iff s).2 ⟨hd, hlate⟩) (by simp [hearly])
  · refine .inr ⟨hlast, ?_⟩
    have hsum : elapsed t + es.count .ms = elapsed s + (e :: es).count .ms := by
      rw [helapsed, List.count_cons]
      by_cases hms : e = .ms
      · rw [hms, List.count_cons_self] at hwrap
        rw [if_pos hms, Nat.mod_eq_of_lt (by omega), if_pos (by simp [hms])]
        omega
      · rw [if_neg hms, if_neg (by simp [hms])]
        omega
    rw [hsum, hparams]
    exact ⟨hlate, hwrap⟩

/-- Settles O34: along the interleaving and its last dispatch step the robot is stopped or the stop is due within the steps
to come, of which none are left at the end. -/
theorem silenceStopsTheRobot : Obligations.SilenceStopsTheRobot := by
  intro s es hs hno hlate hwrap
  have hticks : (es ++ [AgentStep.disp]).count .ms = es.count .ms := by simp
  have hdue : StopDue (es ++ [.disp]) s :=
    ⟨List.suffix_append es [.disp], by rw [hticks]; omega, by rw [hticks]; exact hwrap⟩
  obtain ⟨t, hrun, ht, hidle | ⟨hsteps, -⟩⟩ := runAgents_of_noEventAlong
    (P := fun es s => s.d_state = .idle ∨ StopDue es s)
    (fun hs hquiet hm hP => hP.elim (fun hidle => .inl (runAgent_of_idle hs hquiet hm hidle).1)
      (runAgent_of_stopDue hs hquiet hm))
    hs hno (.inr hdue)
  · exact ⟨t, hrun, hidle, stopped_of_idle ht hidle⟩
  · simp at hsteps

end Sys2Proof.Machine
end

section
/-! PROOF. The motor driver (spec 44_motor_driver R190 to R199): the duty of a speed, the one wheel operation that the
selector word chooses, the exclusion of a wheel's two channels, and the PWM counter over one period. -/

namespace Sys2Proof.Machine

/-! ### The duty of a speed -/

theorem clamp_neg (v : Int) : clamp (-v) = -clamp v := by
  unfold clamp
  omega

theorem clamp_eq_zero_iff (v : Int) : clamp v = 0 ↔ v = 0 := by
  unfold clamp
  omega

/-- The clamp at 65535 keeps the duty inside its 16 bits (44_motor_driver R192). -/
theorem toNat_dutyOf (scale : Nat) (v : Int) :
    (dutyOf scale v).toNat = min 65535 (((clamp v).natAbs * scale + 50) / 100) := by
  rw [dutyOf, BitVec.toNat_ofNat, Nat.mod_eq_of_lt (by omega)]

/-- Only the magnitude of a speed counts (44_motor_driver R192, R194). -/
theorem dutyOf_neg (scale : Nat) (v : Int) : dutyOf scale (-v) = dutyOf scale v := by
  simp only [dutyOf, clamp_neg, Int.natAbs_neg]

/-- Settles O35: the quotient by 100 is the rounding, and the clamp applies only above 65535. -/
theorem dutyRoundsHalfUp : Obligations.DutyRoundsHalfUp := by
  intro scale v a d
  have hduty : d = min 65535 ((a * scale + 50) / 100) := toNat_dutyOf scale v
  exact ⟨by omega, dutyOf_neg scale v, rfl⟩

/-! ### The wheel operations -/

theorem exec_mFwd_of_pos {w : Wheel} {s : State} (h : 0 < wheelSpeed w s) :
    exec (.mFwd w) s = .next (setWheel w (dutyOf s.params.scaleX100 (wheelSpeed w s), 0) s) :=
  execMFwd_eq_next.2 ⟨h, rfl⟩

theorem exec_mRev_of_neg {w : Wheel} {s : State} (h : wheelSpeed w s < 0) :
    exec (.mRev w) s = .next (setWheel w (0, dutyOf s.params.scaleX100 (wheelSpeed w s)) s) :=
  execMRev_eq_next.2 ⟨h, rfl⟩

theorem exec_mStop_of_zero {w : Wheel} {s : State} (h : wheelSpeed w s = 0) :
    exec (.mStop w) s = .next (setWheel w (0, 0) s) :=
  execMStop_eq_next.2 ⟨h, rfl⟩

/-- The operation that WSEL selects writes the pair `Wheel` gives for the wheel's command (44_motor_driver R190). -/
theorem exec_wheelOp (w : Wheel) (s : State) :
    exec (decodeWsel (wselOf w s) w) s =
      .next (setWheel w (wheelDuty s.params.scaleX100 (wheelCmd w s).toInt) s) := by
  rw [decodeWsel_wselOf]
  obtain hneg | hzero | hpos := lt_trichotomy (wheelSpeed w s) 0
  · rw [if_neg hneg.ne, if_pos hneg, exec_mRev_of_neg hneg, wheelDuty_of_neg hneg, wheelSpeed]
  · rw [if_pos hzero, exec_mStop_of_zero hzero, wheelDuty_of_zero hzero]
  · rw [if_neg hpos.ne', if_neg hpos.not_gt, exec_mFwd_of_pos hpos, wheelDuty_of_pos hpos, wheelSpeed]

/-- Settles O36: each operation is selected by the sign; R194's reverse duty is that of the magnitude. -/
theorem wheelOperationsWriteOnePair : Obligations.WheelOperationsWriteOnePair := by
  refine fun s w => ⟨exec_mFwd_of_pos, fun hneg => ?_, exec_mStop_of_zero, fun _ => ⟨rfl, rfl⟩⟩
  rw [dutyOf_neg]
  exact exec_mRev_of_neg hneg

/-- Settles O37: the left wheel's write leaves the right wheel's command and the scale alone. -/
theorem applyPerformsBothWheels : Obligations.ApplyPerformsBothWheels := by
  intro s
  simp only [exec_wheelOp, andThen_next]
  exact ⟨rfl, rfl⟩

/-! ### The two channels of a wheel -/

/-- The scaled duty of 1 percent is above 0 at the reference scale (44_motor_driver R192). -/
theorem dutyOf_reference_eq_zero_iff (v : Int) : dutyOf 65535 v = 0#16 ↔ clamp v = 0 := by
  rw [BitVec.toNat_eq, toNat_dutyOf, BitVec.toNat_zero]
  omega

/-- At the reference scale both duties of a wheel are 0 for command 0 only (44_motor_driver R196). -/
theorem wheelDuty_reference_eq_zero_iff (v : Int) : wheelDuty 65535 v = (0, 0) ↔ v = 0 := by
  rw [← clamp_eq_zero_iff]
  obtain hneg | hzero | hpos := lt_trichotomy (clamp v) 0
  · simp [wheelDuty_of_neg hneg, dutyOf_reference_eq_zero_iff]
  · simp [wheelDuty_of_zero hzero, hzero]
  · simp [wheelDuty_of_pos hpos, dutyOf_reference_eq_zero_iff]

theorem command_eq_zero_iff {c : Speed} {f r : Duty} (h : (f, r) = wheelDuty 65535 c.toInt) :
    c = 0 ↔ f = 0 ∧ r = 0 := by
  rw [← Prod.mk_inj, h, wheelDuty_reference_eq_zero_iff, ← BitVec.toInt_zero, BitVec.toInt_inj]
  rfl

/-- The pin of duty 0 is never high (44_motor_driver R199). -/
@[simp] theorem pwmPin_zero (s : State) : pwmPin s 0#16 = false := by simp [pwmPin]

theorem not_both_pins_high (s : State) {f r : Duty} (h : f = 0 ∨ r = 0) :
    ¬(pwmPin s f = true ∧ pwmPin s r = true) := by
  rintro ⟨hf, hr⟩
  obtain rfl | rfl := h
  · simp at hf
  · simp at hr

/-- Settles O38: the duty pairs are those of the commands, of which one is 0. -/
theorem channelsAreMutuallyExclusive : Obligations.ChannelsAreMutuallyExclusive := by
  intro s hs
  have hleft : s.duty_lf = 0 ∨ s.duty_lr = 0 := by
    simpa only [← hs.dutyLeft] using wheelDuty_exclusive s.params.scaleX100 s.cmd_l.toInt
  have hright : s.duty_rf = 0 ∨ s.duty_rr = 0 := by
    simpa only [← hs.dutyRight] using wheelDuty_exclusive s.params.scaleX100 s.cmd_r.toInt
  refine ⟨hleft, hright, not_both_pins_high s hleft, not_both_pins_high s hright, fun hscale => ?_⟩
  exact ⟨command_eq_zero_iff (hscale ▸ hs.dutyLeft), command_eq_zero_iff (hscale ▸ hs.dutyRight)⟩

/-! ### The PWM counter -/

/-- The state `k` PWM ticks later (44_motor_driver R198). -/
def pwmAdvanced (k : Nat) (s : State) : State :=
  { s with pwm_cnt := BitVec.ofNat 16 ((s.pwm_cnt.toNat + k) % Config.pwmPeriod) }

/-- A value below 65535 fits the 16 bits of `pwm_cnt` (10_state R18). -/
theorem toNat_pwmAdvanced (k : Nat) (s : State) :
    (pwmAdvanced k s).pwm_cnt.toNat = (s.pwm_cnt.toNat + k) % Config.pwmPeriod := by
  have hlt : (s.pwm_cnt.toNat + k) % Config.pwmPeriod < 65535 := Nat.mod_lt _ (by decide)
  rw [pwmAdvanced, BitVec.toNat_ofNat, Nat.mod_eq_of_lt (by omega)]

theorem pwmAdvanced_pwmAdvanced (j k : Nat) (s : State) :
    pwmAdvanced k (pwmAdvanced j s) = pwmAdvanced (j + k) s := by
  rw [pwmAdvanced, toNat_pwmAdvanced, Nat.mod_add_mod, Nat.add_assoc]
  rfl

/-- A whole number of periods leaves a counter in range where it was (44_motor_driver R198). -/
theorem pwmAdvanced_of_dvd {s : State} (hcnt : s.pwm_cnt.toNat ≤ 65534) {k : Nat} (hk : Config.pwmPeriod ∣ k) :
    pwmAdvanced k s = s := by
  have hlt : s.pwm_cnt.toNat < Config.pwmPeriod := Nat.lt_succ_of_le hcnt
  obtain ⟨n, rfl⟩ := hk
  rw [pwmAdvanced, Nat.add_mul_mod_self_left, Nat.mod_eq_of_lt hlt, BitVec.ofNat_toNat, BitVec.setWidth_eq]

theorem pwmStep_eq (s : State) : pwmStep s = .next (pwmAdvanced 1 s) := rfl

/-- Settles O39: P.STEP is one tick of the counter. -/
theorem pwmCounterAdvances : Obligations.PwmCounterAdvances :=
  fun s => ⟨_, pwmStep_eq s, toNat_pwmAdvanced 1 s, rfl⟩

theorem runAgents_replicate_pwm {s : State} (hcnt : s.pwm_cnt.toNat ≤ 65534) (k : Nat) :
    runAgents (List.replicate k .pwm) s = .next (pwmAdvanced k s) := by
  induction k generalizing s with
  | zero => rw [pwmAdvanced_of_dvd hcnt (dvd_zero _)]; rfl
  | succ k ih =>
    have hnext : (pwmAdvanced 1 s).pwm_cnt.toNat ≤ 65534 :=
      toNat_pwmAdvanced 1 s ▸ Nat.le_of_lt_succ (Nat.mod_lt _ (by decide))
    rw [List.replicate_succ, runAgents, runAgent, pwmStep_eq, andThen_next, ih hnext, pwmAdvanced_pwmAdvanced,
      Nat.add_comm]

/-! ### A pin over one period -/

theorem pinAfter_eq {s : State} (hcnt : s.pwm_cnt.toNat ≤ 65534) (k : Nat) (d : Duty) :
    pinAfter k d s = decide ((s.pwm_cnt.toNat + k) % Config.pwmPeriod < d.toNat) := by
  rw [pinAfter, runAgents_replicate_pwm hcnt, ← toNat_pwmAdvanced]
  rfl

/-- Over one period it does not matter where counting starts. -/
theorem count_add_of_periodic {p : Nat → Prop} [DecidablePred p] {n : Nat} (hp : Function.Periodic p n) (c : Nat) :
    n.count (fun k => p (c + k)) = n.count p := by
  have hshift : ∀ k, p (n + k) = p k := fun k => Nat.add_comm k n ▸ hp k
  apply Nat.add_left_cancel (n := c.count p)
  calc c.count p + n.count (fun k => p (c + k))
      _ = (n + c).count p := by rw [← Nat.count_add, Nat.add_comm]
      _ = c.count p + n.count p := by simp only [Nat.count_add, hshift, Nat.add_comm]

/-- The counter runs through all values below the period, of which `d` are below `d`. -/
theorem count_mod_lt {n d : Nat} (hd : d ≤ n) : n.count (fun k => k % n < d) = d := by
  obtain ⟨m, rfl⟩ := Nat.exists_eq_add_of_le hd
  have hhigh : d.count (fun k => k % (d + m) < d) = d :=
    Nat.count_of_forall fun k hk => by rwa [Nat.mod_eq_of_lt (by omega)]
  have hlow : m.count (fun k => (d + k) % (d + m) < d) = 0 :=
    Nat.count_of_forall_not fun k hk => by rw [Nat.mod_eq_of_lt (by omega)]; omega
  rw [Nat.count_add, hhigh, hlow, Nat.add_zero]

/-- Settles O40: the pin is high at the counter values below the duty, each of which occurs once in a period. -/
theorem pinIsHighForItsDuty : Obligations.PinIsHighForItsDuty := by
  intro s d hcnt
  have hfits : d.toNat ≤ Config.pwmPeriod := Nat.le_of_lt_succ d.isLt
  have hperiodic : Function.Periodic (fun k => k % Config.pwmPeriod < d.toNat) Config.pwmPeriod :=
    (Nat.periodic_mod Config.pwmPeriod).comp (· < d.toNat)
  constructor
  · simp only [pinAfter_eq hcnt]
    exact (count_add_of_periodic hperiodic s.pwm_cnt.toNat).trans (count_mod_lt hfits)
  · rw [runAgents_replicate_pwm hcnt]
    exact congrArg _ (pwmAdvanced_of_dvd hcnt (dvd_refl Config.pwmPeriod))

end Sys2Proof.Machine
end

section
/-! PROOF. The clock edge (spec 45_timebase_and_clock R210 to R213): the ticks that fire are a list of agents, no agent writes
a register of the time base, and so the end of an edge finds there what was there before the edge. -/

namespace Sys2Proof.Machine

/-- Settles O41: the meaning of T.MS. -/
theorem millisecondCounterAdvances : Obligations.MillisecondCounterAdvances := fun _ => rfl

/-! ### What no agent writes -/

/-- `t` with all that no agent writes taken from `s`: the parameters, the synchroniser, the prescalers and the input ports
(00_scope R5, 10_state R11, R19, R25). -/
def withClockOf (s t : State) : State :=
  { t with
    params := s.params, rx_meta := s.rx_meta, rx_sync := s.rx_sync
    pre_s := s.pre_s, pre_ms := s.pre_ms, pre_d := s.pre_d, pre_p := s.pre_p
    input := s.input, cycle := s.cycle }

/-- A state that `f` completes with has what no agent writes from the state `f` was given. -/
def KeepsClock (f : State → Result) : Prop := ∀ ⦃s t : State⦄, f s = .next t → t = withClockOf s t

theorem KeepsClock.andThen {f g : State → Result} (hf : KeepsClock f) (hg : KeepsClock g) :
    KeepsClock fun s => andThen (f s) g := by
  intro s t h
  obtain ⟨m, hm, ht⟩ := andThen_eq_next.1 h
  calc t
    _ = withClockOf m t := hg ht
    _ = withClockOf (withClockOf s m) t := congrArg (withClockOf · t) (hf hm)

theorem keepsClock_sampleStep (rx : Bool) : KeepsClock (sampleStep rx) := fun s t h =>
  calc t
    _ = _ := sampleStep_frame h
    _ = withClockOf s t := (congrArg (withClockOf s) (sampleStep_frame h)).symm

theorem keepsClock_dispatchStep : KeepsClock dispatchStep := fun s t h =>
  calc t
    _ = _ := dispatchStep_frame h
    _ = withClockOf s t := (congrArg (withClockOf s) (dispatchStep_frame h)).symm

theorem keepsClock_runAgent (e : AgentStep) : KeepsClock (runAgent e) := by
  intro s t h
  cases e with
  | sample rx => exact keepsClock_sampleStep rx h
  | disp => exact keepsClock_dispatchStep h
  | ms | pwm => cases h; rfl

theorem keepsClock_runAgents (es : List AgentStep) : KeepsClock (runAgents es) := by
  induction es with
  | nil => rintro s _ ⟨⟩; rfl
  | cons e es ih => exact (keepsClock_runAgent e).andThen ih

/-! ### The agents of an edge -/

theorem runAgents_append (es fs : List AgentStep) (s : State) :
    runAgents (es ++ fs) s = andThen (runAgents es s) (runAgents fs) := by
  induction es generalizing s with
  | nil => rfl
  | cons e es ih =>
    rw [List.cons_append, runAgents, runAgents, andThen_assoc]
    exact congrArg _ (funext ih)

/-- An agent's turn is the interleaving of the agent alone, or of none (45_timebase_and_clock R212). -/
theorem runAgents_ite (pre div : Nat) (e : AgentStep) (s : State) :
    runAgents (if pre + 1 = div then [e] else []) s = onTick (fires pre div) (runAgent e) s := by
  by_cases htick : pre + 1 = div
  · rw [if_pos htick, (fires_iff pre div).2 htick, onTick_true, runAgents]
    cases runAgent e s <;> rfl
  · rw [if_neg htick, Bool.eq_false_iff.2 (mt (fires_iff pre div).1 htick)]
    rfl

/-- The agents whose ticks fire at the coming edge, in their order (45_timebase_and_clock R212). -/
def edgeAgents (s : State) : List AgentStep :=
  (if s.pre_d + 1 = s.params.dispDiv then [AgentStep.disp] else []) ++
  (if s.pre_s + 1 = s.params.sampleDiv then [AgentStep.sample s.rx_sync] else []) ++
  (if s.pre_ms + 1 = s.params.msDiv then [AgentStep.ms] else []) ++
  (if s.pre_p + 1 = s.params.pwmDiv then [AgentStep.pwm] else [])

/-- `ClkStep` is the interleaving of its agents, then the synchroniser and the prescalers (45_timebase_and_clock R212). -/
theorem clkStep_eq_runAgents (rxPin : Bool) (s : State) :
    clkStep rxPin s =
      andThen (runAgents (edgeAgents s) (clearStrobes s)) fun d => .next (advancePrescalers (synced rxPin d)) := by
  simp only [edgeAgents, runAgents_append, andThen_assoc, runAgents_ite]
  rfl

/-! ### The end of an edge -/

/-- What an edge with no reset makes of the state `t` after its agents: the synchroniser, the prescalers and the input ports
go on from their values in `s`, before the edge (45_timebase_and_clock R212). -/
def closeEdge (s t : State) : State :=
  { t with
    rx_sync := s.rx_meta, rx_meta := (pinsNow s).rx_pin
    pre_s := nextPrescaler s.pre_s s.params.sampleDiv
    pre_ms := nextPrescaler s.pre_ms s.params.msDiv
    pre_d := nextPrescaler s.pre_d s.params.dispDiv
    pre_p := nextPrescaler s.pre_p s.params.pwmDiv
    input := s.input.tail, cycle := s.cycle + 1 }

/-- Where the agents left the registers of the time base alone, the last parts of the edge find there what was there before it. -/
theorem closeEdge_of_withClockOf {s t : State} (h : t = withClockOf s t) :
    consumeInput (advancePrescalers (synced (pinsNow s).rx_pin t)) = closeEdge s t := by
  rw [h]
  rfl

/-- An edge with no reset is the interleaving of its agents and the end of the edge (45_timebase_and_clock R212). -/
theorem step_eq_closeEdge {s : State} (hrst : (pinsNow s).rst = false) :
    step s = andThen (runAgents (edgeAgents s) (clearStrobes s)) fun t => .next (closeEdge s t) := by
  rw [step_of_no_reset hrst, clkStep_eq_runAgents, andThen_assoc]
  cases hrun : runAgents (edgeAgents s) (clearStrobes s) with
  | next t =>
    have hclock : t = withClockOf s t := (keepsClock_runAgents _ hrun :)
    exact congrArg Host.Outcome.next (closeEdge_of_withClockOf hclock)
  | fault e => rfl
  | refused e => rfl

/-- Settles O43: the interleaving of the edge's agents, and the end of the edge with each prescaler's tick written out. -/
theorem edgePerformsTheAgentsInOrder : Obligations.EdgePerformsTheAgentsInOrder := by
  intro s hrst
  rw [step_eq_closeEdge hrst]
  simp only [closeEdge, nextPrescaler, fires_iff]
  rfl

/-- Below its divisor a prescaler counts modulo the divisor (45_timebase_and_clock R210). -/
theorem nextPrescaler_eq_mod {pre div : Nat} (h : pre < div) : nextPrescaler pre div = (pre + 1) % div := by
  simp only [nextPrescaler, fires_iff]
  split
  case isTrue htick => rw [htick, Nat.mod_self]
  case isFalse htick => exact (Nat.mod_eq_of_lt (by omega)).symm

/-- Settles O42: the edge ends with the next value of each prescaler, and the invariants keep each below its divisor. -/
theorem prescalersCountModuloTheirDivisors : Obligations.PrescalersCountModuloTheirDivisors := by
  intro s t hs hrst h
  rw [step_eq_closeEdge hrst] at h
  obtain ⟨u, -, hclose⟩ := andThen_eq_next.1 h
  obtain rfl := Host.Outcome.next.inj hclose
  exact ⟨nextPrescaler_eq_mod hs.preSRange, nextPrescaler_eq_mod hs.preMsRange, nextPrescaler_eq_mod hs.preDRange,
    nextPrescaler_eq_mod hs.prePRange⟩

end Sys2Proof.Machine
end

section
/-! PROOF. What takes the place of exceptions (spec 60_exceptions R230, R231): a misaligned pair of listed codes is ignored
like any other code that is no button event, and from a good state an edge runs to its end. -/

namespace Sys2Proof

/-! ### Misaligned pairs of listed codes -/

/-- The high byte of a listed code is even (30_encoding R75). -/
theorem hiByte_even_of_listed {code : KeyCode} (h : code ∈ listedCodes) : (hiByte code).getLsbD 0 = false :=
  forall_listed (P := fun code => (hiByte code).getLsbD 0 = false) (by decide) h

/-- The low byte of a listed code is odd or 0 (30_encoding R75). -/
theorem loByte_odd_or_zero_of_listed {code : KeyCode} (h : code ∈ listedCodes) :
    (loByte code).getLsbD 0 = true ∨ loByte code = 0 :=
  forall_listed (P := fun code => (loByte code).getLsbD 0 = true ∨ loByte code = 0) (by decide) h

/-- A low byte that is a high byte too is both even, and odd or 0 (30_encoding R75). -/
theorem loByte_eq_zero_of_eq_hiByte {c d : KeyCode} (hc : c ∈ listedCodes) (hd : d ∈ listedCodes)
    (heq : loByte c = hiByte d) : loByte c = 0 := by
  obtain hodd | hzero := loByte_odd_or_zero_of_listed hc
  · rw [heq, hiByte_even_of_listed hd] at hodd
    contradiction
  · exact hzero

/-- A misaligned pair that is listed has a byte of both kinds in each place, so it is 0x0000, which is `Idle`
(60_exceptions R231). -/
theorem misaligned_isEvent {c1 c2 : KeyCode} (h1 : c1 ∈ listedCodes) (h2 : c2 ∈ listedCodes) :
    (buttonRom (keyCodeOf (loByte c1) (hiByte c2))).isEvent = false := by
  refine Bool.eq_false_iff.2 fun hevent => ?_
  obtain ⟨hlisted, hne, -⟩ := (buttonRom_isEvent_iff _).1 hevent
  have hfirst : loByte c1 = 0 := loByte_eq_zero_of_eq_hiByte h1 hlisted (hiByte_keyCodeOf _ _).symm
  have hsecond : hiByte c2 = 0 := by
    simpa using loByte_eq_zero_of_eq_hiByte hlisted h2 (loByte_keyCodeOf _ _)
  exact hne (by rw [hfirst, hsecond]; rfl)

end Sys2Proof

namespace Sys2Proof.Machine

/-- Settles O27: the code is no event, so FA.SECOND ends with the completed frame, which writes no register of the dispatcher
or the motor driver. -/
theorem misalignedListedCodesNeverDrive : Obligations.MisalignedListedCodesNeverDrive := by
  intro s c1 c2 hrom h1 h2 hne hsecond hr hstored hread
  have hcode : keyCodeOf (loByte c1) (hiByte c2) = keyCodeOf s.stored (Memory.read s.mem s.rd) := by
    rw [hstored, hread]
  have hname : ¬ (romName s.params (keyCodeOf (loByte c1) (hiByte c2))).isEvent = true := by
    rw [romName_of_no_override hrom, misaligned_isEvent h1 h2]
    exact Bool.false_ne_true
  have hnow : codeNow s = some (keyCodeOf (loByte c1) (hiByte c2)) := hcode ▸ codeNow_of_second hne hsecond
  have hexec : exec .faSecond s = .next _ := execFaSecond_eq ((hasData_iff s).2 hne) hsecond hr hcode
  rw [if_neg hname] at hexec
  exact ⟨by rw [eventNow_of_code hnow, if_neg hname], _, hexec, rfl, rfl, rfl, rfl, rfl, rfl, rfl, rfl, rfl⟩

/-! ### No step stops -/

/-- Each agent meets the invariants that the one before it kept, and completes (45_timebase_and_clock R213). -/
theorem runAgents_completes {s : State} (hs : Invariants s) (es : List AgentStep) : ∃ t, runAgents es s = .next t := by
  induction es generalizing s with
  | nil => exact ⟨s, rfl⟩
  | cons e es ih =>
    obtain ⟨m, hm⟩ := runAgent_completes hs e
    rw [runAgents, hm]
    exact ih (keepsInvariants_runAgent e hs hm)

/-- Settles O50: a reset edge always completes, and any other edge does where its agents do. -/
theorem noStepStops : Obligations.NoStepStops := by
  intro s hs
  cases hrst : (pinsNow s).rst with
  | true => exact ⟨_, clockEdge_eq_next.2 (.inl ⟨hrst, rfl⟩)⟩
  | false =>
    obtain ⟨t, hrun⟩ := runAgents_completes (invariants_clearStrobes hs) (edgeAgents s)
    rw [step_eq_closeEdge hrst, hrun]
    exact ⟨closeEdge s t, rfl⟩

end Sys2Proof.Machine
end

section
/-! PROOF. Reset and the dispatch rate (spec 70_reset_and_hazards R260, R268): a reset edge gives every register its reset
value. At every other edge the next dispatch tick comes one edge closer and the next push at most one, so a byte held is taken
before another is pushed. -/

namespace Sys2Proof.Machine

/-- Settles O46: the reset edge takes its registers from the reset state, in which no cell of the storage is listed. -/
theorem resetBeatsEverything : Obligations.ResetBeatsEverything := by
  intro s hrst
  refine ⟨consumeInput (resetEdge s), clockEdge_eq_next.2 (.inl ⟨hrst, rfl⟩), ?_⟩
  simp [resetEdge, State.reset, Memory.unlisted]

/-- A FIFO that holds nothing keeps up. -/
theorem keepsUp_of_empty {s : State} (h : s.count = 0) : KeepsUp s := by simp [KeepsUp, h]

/-- Settles O53: the reset FIFO is empty, and the reference dispatch period is well within the rate (00_scope R4). -/
theorem resetKeepsUp : Obligations.ResetKeepsUp := ⟨rfl, keepsUp_of_empty rfl, by decide⟩

/-! ### Edges before a tick -/

/-- Clock edges before the edge at which a prescaler's tick fires (45_timebase_and_clock R210). -/
def edgesToTick (pre div : Nat) : Nat := div - 1 - pre

theorem edgesToTick_eq_zero_iff {pre div : Nat} (h : pre < div) : edgesToTick pre div = 0 ↔ fires pre div = true := by
  rw [fires_iff, edgesToTick]
  omega

/-- After its tick a prescaler has a whole period before it, the edge just passed included. -/
theorem edgesToTick_after_tick {pre div : Nat} (h : fires pre div = true) :
    edgesToTick (nextPrescaler pre div) div + 1 = div := by
  have hlast := (fires_iff pre div).1 h
  rw [nextPrescaler, if_pos h, edgesToTick]
  omega

/-- An edge without a tick brings the tick one edge closer. -/
theorem edgesToTick_without_tick {pre div : Nat} (h : pre < div) (hno : fires pre div = false) :
    edgesToTick (nextPrescaler pre div) div + 1 = edgesToTick pre div := by
  have hlast : ¬ pre + 1 = div := fun heq => Bool.eq_false_iff.1 hno ((fires_iff pre div).2 heq)
  simp only [nextPrescaler, hno, edgesToTick, Bool.false_eq_true, if_false]
  omega

theorem edgesToDispatch_eq (s : State) : edgesToDispatch s = edgesToTick s.pre_d s.params.dispDiv := rfl

theorem dispatchTick_iff {s : State} (hs : Invariants s) : dispatchTick s = true ↔ edgesToDispatch s = 0 :=
  (edgesToTick_eq_zero_iff hs.preDRange).symm

theorem edgesToDispatch_lt {s : State} (hs : Invariants s) : edgesToDispatch s < s.params.dispDiv := by
  have hpre := hs.preDRange
  unfold edgesToDispatch
  omega

/-! ### Sample ticks before a push -/

/-- Sample ticks before the earliest one that can push a byte: the rest of a reception, or in HUNT the whole of one whose start
edge is the next sample (40_sampler R109). -/
def ticksToPush (s : State) : Nat :=
  match s.s_state with
  | .hunt => s.params.startDelay + 56
  | .recv => s.tcnt.toNat + 8 * (7 - s.bitn.toNat)

theorem edgesToPush_eq (s : State) :
    edgesToPush s = edgesToTick s.pre_s s.params.sampleDiv + ticksToPush s * s.params.sampleDiv := by
  unfold edgesToPush ticksToPush edgesToTick
  cases s.s_state <;> rfl

theorem ticksToPush_of_hunt {s : State} (h : s.s_state = .hunt) : ticksToPush s = s.params.startDelay + 56 := by
  simp only [ticksToPush, h]

theorem ticksToPush_of_recv {s : State} (h : s.s_state = .recv) :
    ticksToPush s = s.tcnt.toNat + 8 * (7 - s.bitn.toNat) := by
  simp only [ticksToPush, h]

theorem ticksToPush_of_last {s : State} (hrecv : s.s_state = .recv) (htcnt : s.tcnt = 0) (hbitn : s.bitn = 7) :
    ticksToPush s = 0 := by
  simp [ticksToPush, hrecv, htcnt, hbitn]

/-- A push adds one byte where there is room, and none where the byte is dropped; the sampler stays as it is. -/
theorem fifoPush_count {b : Byte} {s t : State} (h : fifoPush b s = .next t) :
    t.count ≤ s.count + 1 ∧ ticksToPush t = ticksToPush s := by
  obtain ⟨-, rfl⟩ | ⟨-, hpush⟩ := fifoPush_eq_next.1 h
  · exact ⟨Nat.le_succ _, rfl⟩
  · obtain ⟨-, rfl⟩ := pushByte_eq_next.1 hpush
    exact ⟨le_rfl, rfl⟩

/-- A sample step pushes where no tick is left before the push, and a whole reception is before the next one; or it leaves the
bytes held alone and brings the push at most one tick closer (40_sampler R101 to R105). -/
theorem sampleStep_ticksToPush {s t : State} {rx : Bool} (hl : s.params.Legal) (h : sampleStep rx s = .next t) :
    (ticksToPush s = 0 ∧ t.count ≤ s.count + 1 ∧ ticksToPush t = s.params.startDelay + 56) ∨
    (t.count = s.count ∧ ticksToPush s ≤ ticksToPush t + 1) := by
  have hdelay := hl.startDelay
  obtain ⟨-, -, rfl⟩ | ⟨hs, -, rfl⟩ | ⟨hs, ht, rfl⟩ | ⟨hs, ht, hb, rfl⟩ | ⟨hs, ht, hb, hpush⟩ := sampleStep_cases h
  · exact .inr ⟨rfl, Nat.le_succ _⟩
  · have hafter : ticksToPush { s with
        s_state := .recv, tcnt := BitVec.ofNat 4 (s.params.startDelay - 1), bitn := 0, prev := rx } =
          s.params.startDelay - 1 + 8 * 7 :=
      congrArg (· + 8 * 7) (toNat_startCount hl)
    refine .inr ⟨rfl, ?_⟩
    rw [ticksToPush_of_hunt hs, hafter]
    omega
  · have hafter : ticksToPush { s with tcnt := s.tcnt - 1, prev := rx } =
        (s.tcnt - 1).toNat + 8 * (7 - s.bitn.toNat) := ticksToPush_of_recv hs
    have hdown : (s.tcnt - 1).toNat + 1 = s.tcnt.toNat := by bv_omega
    refine .inr ⟨rfl, ?_⟩
    rw [ticksToPush_of_recv hs, hafter]
    omega
  · have hafter : ticksToPush { s with
        shreg := shiftIn rx s.shreg, bitn := s.bitn + 1, tcnt := BitVec.ofNat 4 (Config.oversample - 1), prev := rx } =
          7 + 8 * (7 - (s.bitn + 1).toNat) := ticksToPush_of_recv hs
    have hnext : (s.bitn + 1).toNat = s.bitn.toNat + 1 ∧ s.bitn.toNat < 7 := by bv_omega
    have hzero : s.tcnt.toNat = 0 := congrArg BitVec.toNat ht
    refine .inr ⟨rfl, ?_⟩
    rw [ticksToPush_of_recv hs, hafter]
    omega
  · obtain ⟨hcount, hticks⟩ := fifoPush_count hpush
    exact .inl ⟨ticksToPush_of_last hs ht hb, hcount, hticks.trans (ticksToPush_of_hunt rfl)⟩

/-! ### One edge -/

/-- The dispatch turn pops a byte held where the dispatch tick fires (43_dispatcher R150). -/
theorem dispatchTurn_count {s a : State} (hs : Invariants s) (h : dispatchTurn s = .next a) :
    a.count = if dispatchTick s then s.count - 1 else s.count := by
  by_cases hpop : dispatchTick s = true ∧ s.count ≠ 0
  · obtain ⟨v, hv⟩ := dispatchTurn_of_pop hs.rdBound hpop
    obtain rfl := Host.Outcome.next.inj (h.symm.trans hv)
    exact (if_pos hpop.1).symm
  · obtain ⟨v, hv, -⟩ := dispatchTurn_of_no_pop hs.rdBound hpop
    obtain rfl := Host.Outcome.next.inj (h.symm.trans hv)
    cases htick : dispatchTick s with
    | false => rfl
    | true =>
      have hempty : s.count = 0 := not_not.1 fun hne => hpop ⟨htick, hne⟩
      exact hempty.trans (by simp [hempty])

/-- A `ClkStep` that completes is its two turns at the FIFO and the rest of the edge, and the turns leave the time base alone
(45_timebase_and_clock R212). -/
theorem clkStep_turns {s t : State} {rxPin : Bool} (h : clkStep rxPin s = .next t) :
    ∃ a b, dispatchTurn s = .next a ∧ onTick (sampleTick s) (sampleStep s.rx_sync) a = .next b ∧
      t = restOfEdge rxPin s b ∧ b = withClockOf s b := by
  rw [clkStep_eq] at h
  obtain ⟨a, hturn, hrest⟩ := andThen_eq_next.1 h
  obtain ⟨b, hsample, hb⟩ := andThen_eq_next.1 hrest
  refine ⟨a, b, hturn, hsample, (Host.Outcome.next.inj hb).symm, ?_⟩
  obtain ⟨v, rd, count, rfl⟩ := dispatchTurn_frame hturn
  obtain ⟨-, hstep⟩ | ⟨-, rfl⟩ := onTick_eq_next.1 hsample
  · exact (keepsClock_sampleStep _ hstep :)
  · rfl

/-- The dispatch tick comes one edge closer, or fires and is a period away again (45_timebase_and_clock R210). -/
theorem clkStep_edgesToDispatch {s t : State} {rxPin : Bool} (hs : Invariants s) (h : clkStep rxPin s = .next t) :
    edgesToDispatch t + 1 = if dispatchTick s then s.params.dispDiv else edgesToDispatch s := by
  obtain ⟨a, b, -, -, rfl, hclock⟩ := clkStep_turns h
  have hafter : edgesToDispatch (restOfEdge rxPin s b) =
      edgesToTick (nextPrescaler s.pre_d s.params.dispDiv) s.params.dispDiv := by
    rw [edgesToDispatch_eq, hclock]
    rfl
  rw [hafter]
  cases htick : dispatchTick s with
  | true => exact edgesToTick_after_tick htick
  | false => exact edgesToTick_without_tick hs.preDRange htick

/-- The sample turn finds the sampler, and the parameters, as they were before the edge (20_memory R60). -/
theorem dispatchTurn_ticksToPush {s a : State} (h : dispatchTurn s = .next a) :
    ticksToPush a = ticksToPush s ∧ a.params = s.params := by
  obtain ⟨v, rd, count, rfl⟩ := dispatchTurn_frame h
  exact ⟨rfl, rfl⟩

/-- An edge pushes where no edge is left before the push, and the whole time between two pushes is before the next one; or it
leaves the bytes held as its dispatch turn does, and brings the push at most one edge closer (40_sampler R109). -/
theorem clkStep_edgesToPush {s t : State} {rxPin : Bool} (hs : Invariants s) (h : clkStep rxPin s = .next t) :
    ∃ a, dispatchTurn s = .next a ∧
      ((edgesToPush s = 0 ∧ t.count ≤ a.count + 1 ∧
          edgesToPush t + 1 = (s.params.startDelay + 57) * s.params.sampleDiv) ∨
        (t.count = a.count ∧ edgesToPush s ≤ edgesToPush t + 1)) := by
  obtain ⟨a, b, hturn, hsample, rfl, hclock⟩ := clkStep_turns h
  refine ⟨a, hturn, ?_⟩
  have hafter : edgesToPush (restOfEdge rxPin s b) =
      edgesToTick (nextPrescaler s.pre_s s.params.sampleDiv) s.params.sampleDiv + ticksToPush b * s.params.sampleDiv := by
    rw [edgesToPush_eq, hclock]
    rfl
  obtain ⟨hkept, hparams⟩ := dispatchTurn_ticksToPush hturn
  rw [hafter, edgesToPush_eq s, ← hkept]
  obtain ⟨htick, hstep⟩ | ⟨htick, rfl⟩ := onTick_eq_next.1 hsample
  · have hnow := (edgesToTick_eq_zero_iff hs.preSRange).2 htick
    have hperiod := edgesToTick_after_tick htick
    obtain ⟨hlast, hcount, hticks⟩ | ⟨hcount, hticks⟩ :=
      sampleStep_ticksToPush (invariants_dispatchTurn hs hturn).legal hstep
    · refine .inl ⟨by rw [hnow, hlast, Nat.zero_mul], hcount, ?_⟩
      rw [hticks, hparams]
      linarith
    · have hscaled := Nat.mul_le_mul_right s.params.sampleDiv hticks
      exact .inr ⟨hcount, by linarith⟩
  · have hcloser := edgesToTick_without_tick hs.preSRange htick
    exact .inr ⟨rfl, by omega⟩

/-! ### Every edge -/

/-- An edge with no reset keeps up: a byte that it pushes is the only one held, since an older one is popped at that edge at the
latest, and its own pop is at most one dispatch period away (70_reset_and_hazards R268). -/
theorem keepsUp_clkStep {s t : State} {rxPin : Bool} (hs : Invariants s) (hk : KeepsUp s)
    (hrate : s.params.dispDiv ≤ (s.params.startDelay + 57) * s.params.sampleDiv) (h : clkStep rxPin s = .next t) :
    KeepsUp t := by
  obtain ⟨hheld, hdue⟩ := hk
  have hdispatch := clkStep_edgesToDispatch hs h
  obtain ⟨a, hturn, hpush⟩ := clkStep_edgesToPush hs h
  have hcount := dispatchTurn_count hs hturn
  by_cases hnow : dispatchTick s = true
  · rw [if_pos hnow] at hdispatch hcount
    have hpopped : a.count = 0 := by omega
    obtain ⟨-, hadded, hwhole⟩ | ⟨hsame, -⟩ := hpush
    · exact ⟨by omega, fun _ => by omega⟩
    · exact keepsUp_of_empty (hsame.trans hpopped)
  · rw [if_neg hnow] at hdispatch hcount
    obtain ⟨hnone, hadded, hwhole⟩ | ⟨hsame, hcloser⟩ := hpush
    · have hlater : edgesToDispatch s ≠ 0 := mt (dispatchTick_iff hs).2 hnow
      have hempty : s.count = 0 := by omega
      have hperiod := edgesToDispatch_lt hs
      exact ⟨by omega, fun _ => by omega⟩
    · exact ⟨by omega, fun hone => by omega⟩

/-- An edge with no reset drops no byte: it would need a byte held, a push and no dispatch tick, while the byte's pop is due no
later than the push (41_fifo R126). -/
theorem fifo_ovf_clkStep {s t : State} {rxPin : Bool} (hs : Invariants s) (hk : KeepsUp s)
    (h : clkStep rxPin s = .next t) (hset : t.fifo_ovf = true) : s.fifo_ovf = true := by
  obtain ⟨a, hturn, hovf⟩ := clkStep_fifo_ovf h
  obtain hold | ⟨htick, hrecv, htcnt, hbitn, hfull⟩ := hovf.1 hset
  · exact hold
  exfalso
  obtain ⟨hheld, hdue⟩ := hk
  obtain ⟨hfull, hnot⟩ := (dispatchTurn_full_iff hs hturn).1 hfull
  have hdepth := hs.legal.fifoDepth
  have hone : s.count = 1 := by omega
  have hpush : edgesToPush s = 0 := by
    rw [edgesToPush_eq, (edgesToTick_eq_zero_iff hs.preSRange).2 htick, ticksToPush_of_last hrecv htcnt hbitn,
      Nat.zero_mul]
  have hpop : edgesToDispatch s = 0 := Nat.eq_zero_of_le_zero (hpush ▸ hdue hone)
  exact Bool.eq_false_iff.1 hnot ((dispatchTick_iff hs).2 hpop)

/-- Settles O52: a reset edge empties the FIFO and clears the flag, and every other edge keeps up and drops nothing. -/
theorem fifoNeverOverflowsAtTheDispatchRate : Obligations.FifoNeverOverflowsAtTheDispatchRate := by
  intro s t hs hk hrate h
  obtain ⟨-, rfl⟩ | ⟨-, u, hu, rfl⟩ := clockEdge_eq_next.1 h
  · exact ⟨keepsUp_of_empty rfl, fun hset => absurd hset Bool.false_ne_true⟩
  · exact ⟨(keepsUp_clkStep hs hk hrate hu :), fun hset => fifo_ovf_clkStep hs hk hu hset⟩

end Sys2Proof.Machine
end
